-- ==== Sys2Proof/Word.lean ====
section
/-!
DEFINITION. The two word types of the core: a byte of 8 bits and a short of 16 bits (R6, R8 of 00_scope.md).
A byte is also a stack index and a device port number; a short is also a memory address and a program counter.
-/

namespace Sys2Proof

/-- A byte: 8 bits, a value in [0,255] (R6, R8). Stack indices (R22) and port numbers (R37) are bytes too. -/
abbrev Byte := BitVec 8

/-- A short: 16 bits, a value in [0,65535] (R6, R8). -/
abbrev Short := BitVec 16

/-- A memory address or a program counter: 16 bits, arithmetic mod 2^16 (R6, R33, R50). -/
abbrev Addr := BitVec 16

end Sys2Proof
end

