-- ==== Sys2Proof/Config.lean ====
section
/-!
DEFINITION. What is fixed for the machine: its sizes (R6 of 00_scope.md), the values the model names where the spec leaves
a reset value to a parameter (R7, R41), and the HOST's side of the bridge: the moves the host can make (R334, R335, R337 of
46_device.md) and the free host turn.
-/

namespace Sys2Proof

/-- The two stacks: the working stack `W` and the return stack `R` (R20, R22, R26). -/
inductive StackId where
  /-- The working stack `W`. -/
  | work
  /-- The return stack `R`. -/
  | ret
deriving DecidableEq, Repr, Inhabited

/-- One write the host may make to the VM state inside one of its windows (R334): a memory byte, a stack byte or a stack
index. There is no move that writes a run's `pc` (R334, R337). Host reads change nothing (R51) and need no move. -/
inductive HostEdit where
  /-- `M[addr] <- value`. -/
  | mem (addr : Addr) (value : Byte)
  /-- `T.data[slot] <- value`. -/
  | data (stack : StackId) (slot value : Byte)
  /-- `T.idx <- value`. -/
  | index (stack : StackId) (value : Byte)
deriving DecidableEq, Repr, Inhabited

/-- Why the core can be stuck inside a bridge call: the two cases of R475 that are neither a fault of the core nor a run that
goes on forever. -/
inductive Stuck where
  /-- The host call (`dei`, `deo`) never returns: the core waits inside the instruction forever (R337, R475 case 2, I6). -/
  | hostNeverReturns
  /-- The host calls `run` beyond the depth its own stack allows (R475 case 3, I2). -/
  | hostStackExhausted
deriving DecidableEq, Repr, Inhabited

/-- How one turn of the host ends. -/
inductive HostAct where
  /-- The host calls `run(vm, vector)`: nested when it is inside a bridge call, a fresh run when the core is idle
  (R103, R335, R463). -/
  | run (vector : Addr)
  /-- The host finishes. Inside a bridge call the callback returns: `value` is what `dei` returns, `continue` what `deo`
  returns (R330, R331); the one that does not belong to the call is not used. While the core is idle it means that the
  host leaves the core idle (log 11). -/
  | finish (value : Short) (continueRun : Bool)
  /-- The bridge call never comes back, for this reason: the machine is stuck in the transaction (R475, I2, I6). While the core
  is idle there is no bridge call and the core is left idle (log 11). -/
  | stuck (why : Stuck)
deriving DecidableEq, Repr, Inhabited

/-- One turn of the host: the writes it makes, in order, and how the turn ends. A callback that calls `run` several times
takes one turn before each call and one after the last (R465). -/
structure HostTurn where
  /-- The host's writes to the VM state, in order. -/
  edits : List HostEdit
  /-- How the turn ends. -/
  act : HostAct
deriving DecidableEq, Repr, Inhabited

/-- The `n`-th turn of the host after the listed turns (`State.script`) are used up: a FREE VALUE. The spec leaves the
host's behaviour to the host (R7, D8, I4); nothing in the model knows what this turn is (log 5, safe). -/
opaque Config.hostTurn (n : Nat) : HostTurn

/-- The memory size in bytes (R6, R21). -/
def Config.memorySize : Nat := 65536

/-- The size of each stack in bytes (R6, R22). -/
def Config.stackSize : Nat := 256

/-- The address of the boot call `run(vm, 0x0100)`, which is also the ROM's load offset (R6, R41, R491). -/
def Config.bootEntry : Addr := 0x0100

/-- The reset value of both stack indices, `0xFF`: the spec's decision D1 (R41, R491; log 1). -/
def Config.stackIndexInit : Byte := 0xFF

end Sys2Proof
end

