-- ==== Sys2Proof/Machine/State.lean ====
section
/-!
DEFINITION. The machine state as plain data (10_state.md), and the state after reset. The spec's own state is `mem`, `wst`,
`rst`, `pc`, `phase`, `suspended` and `result`; `deoHaltHonoured` is the spec's parameter of R7; `script`, `clock` and `calls`
are the model's own fields for the host's side of the bridge. INVENTORY.md lists each with its rule and its reset value.
-/

namespace Sys2Proof.Machine

/-- A byte array held sparsely: (address, byte) pairs in one canonical form, addresses strictly rising and no entry equal to
what an unlisted address reads as (`Memory.unlisted`, `Memory.wf` in Ops.lean). Used for the memory `M` (R21) and for the 256
data bytes of each stack (R22). -/
abbrev Memory := List Host.Cell

/-- A stack: a ring buffer of 256 bytes and the index of its top byte (R22, R23). -/
structure Stack where
  /-- `T.data[0..255]` (R22). -/
  data : Memory
  /-- `T.idx`: the index of the top byte, not a length (R23). -/
  idx : Byte
deriving DecidableEq, Repr

/-- A bridge transaction as the core keeps it while the host runs (R330, R331, R40). -/
inductive Transaction where
  /-- `HostDEI(port, wide)`; the result will be pushed on `target` (R330, R340). -/
  | dei (port : Byte) (wide : Bool) (target : StackId)
  /-- `HostDEO(port, value, wide)`; a byte value is zero-extended (R331, D12). -/
  | deo (port : Byte) (value : Short) (wide : Bool)
deriving DecidableEq, Repr

/-- What the core has sent to the host in one transaction (R336). -/
inductive HostCall where
  /-- `dei(port, wide)`. -/
  | dei (port : Byte) (wide : Bool)
  /-- `deo(port, value, wide)`. -/
  | deo (port : Byte) (value : Short) (wide : Bool)
deriving DecidableEq, Repr

/-- A suspended run: its own `pc`, and the bridge transaction it waits on (R40). -/
structure Suspended where
  /-- The `pc` the run goes on with; the host cannot read or write it (R40, R332). -/
  pc : Addr
  /-- The transaction it waits on. -/
  transaction : Transaction
deriving DecidableEq, Repr

/-- Who acts next. With `pc` and `suspended` it says which runs are active (R40). -/
inductive Phase where
  /-- The session has been created and no run has been active yet: the boot call of R491 comes next. -/
  | created
  /-- A run executes; its program counter is `State.pc`. -/
  | running
  /-- The host has the machine: no run executes. With no suspended run the core is idle (R40, R474); otherwise the host is
  inside the bridge call of the innermost suspended run (R334, R335). -/
  | hosting
  /-- The machine is stuck in the transaction of the innermost suspended run: no step and no final state (R475, I2, I6). -/
  | stuck (why : Stuck)
deriving DecidableEq, Repr

/-- The machine state. -/
structure State where
  /-- `M`, 65536 bytes (R20, R21). -/
  mem : Memory
  /-- `W`, the working stack (R20, R22). -/
  wst : Stack
  /-- `R`, the return stack (R20, R22). -/
  rst : Stack
  /-- The program counter of the run that executes (R20, R33). While no run executes none is held (R41): the field then keeps
  its last value and the machine does not read it (log 13). -/
  pc : Addr
  /-- Who acts next (R40, R334, R491). -/
  phase : Phase
  /-- The suspended runs, the innermost FIRST (R40). -/
  suspended : List Suspended
  /-- The `pc` that the run that ended last returned to its caller (R104), `none` before any run has ended. -/
  result : Option Addr
  /-- The parameter `deo_halt_honoured` (R7, R333, D7). No step writes it. -/
  deoHaltHonoured : Bool
  /-- MODEL's own: the bridge calls made so far, oldest first (R336). -/
  calls : List HostCall
  /-- MODEL's own: the host's turns still to come (R7, D8; log 5). -/
  script : List HostTurn
  /-- MODEL's own: the argument of the free host turn, used when `script` is empty (log 5). -/
  clock : Nat
deriving DecidableEq, Repr

/-- Why the machine faults: NEVER. No opcode faults and no access, stack or arithmetic condition traps (R460, R461, R475: "A
model of it has no fault outcome"). The type has no constructor, so no meaning can raise a fault. -/
inductive Fault where
deriving DecidableEq, Repr

/-- Why the machine answers no next state. -/
inductive Refusal where
  /-- The instruction has no meaning in the model yet; raised by `exec`'s refused arms only. No arm is refused now, so nothing
  raises it. Safe: the model stops where the hardware goes on. -/
  | notModelled (mnemonic : String)
  /-- The machine is stuck inside a bridge call: "no step, no final state" (R475 cases 2 and 3, I2, I6). Raised by `step` in the
  phase `stuck` only, never by a meaning; it is no fault of the core. Safe: the spec gives no step there. -/
  | stuck (why : Stuck)
deriving DecidableEq, Repr

/-- A stack at reset: every data byte at what an unlisted byte reads as (the parameters `stack_init_W`, `stack_init_R`, left
OPEN by R41 and D2: DESIGN CHOICE zero, log 2), and the index at `0xFF` (R41, D1, log 1). -/
def Stack.reset : Stack := { data := [], idx := Config.stackIndexInit }

/-- The machine right after reset, that is after the creation of a VM session (R41, R490): memory with nothing listed
(`mem_init`, log 3), both stacks at reset, no run active, and the boot call `run(vm, 0x0100)` of R491 the next thing to happen
(log 4). -/
def State.reset : State where
  mem := []
  wst := Stack.reset
  rst := Stack.reset
  pc := Config.bootEntry
  phase := .created
  suspended := []
  result := none
  deoHaltHonoured := false
  calls := []
  script := []
  clock := 0

end Sys2Proof.Machine
end

