-- ==== Sys2Proof/Machine/Flags.lean ====
section
/-!
DEFINITION. Flags. The core has none: no status flags, condition codes or predicate registers, and no instruction writes a
flag as a side effect (R34 of 10_state.md). A comparison's outcome is a byte on the active stack, and a condition is a byte
taken from a stack; those two readings are here.
-/

namespace Sys2Proof.Machine

/-- The byte a comparison pushes: `1` when it holds and `0` otherwise, in byte and in short mode (R9, R34, R95). -/
def flagByte (holds : Bool) : Byte := if holds then 1 else 0

/-- A condition byte takes the jump when it is not zero; any nonzero byte does (R34, R121, R249). -/
def conditionHolds (cond : Byte) : Bool := cond != 0

end Sys2Proof.Machine
end

