-- ==== Sys2Proof/Syntax.lean ====
section
/-!
DEFINITION. The instructions: one constructor for each of the 256 rows of spec/opcode_table.json (R2, R78 of 30_encoding.md),
in the table's order. Seven of the eight immediate opcodes carry their operand (R75); every other operand comes from a stack.
Beside it, the 31 base operations and the three mode fields of the other 248 opcodes (R71, R72), with the map from a base
operation and a mode to its constructor.
-/

namespace Sys2Proof

/-- An instruction of the core: one constructor per opcode byte (R78). The constructor's name is the mnemonic of R83 in
lower case. -/
inductive Instr where
  -- `0x00..0x1F`: no mode
  | brk
  | inc
  | pop
  | nip
  | swp
  | rot
  | dup
  | ovr
  | equ
  | neq
  | gth
  | lth
  | jmp
  | jcn
  | jsr
  | sth
  | ldz
  | stz
  | ldr
  | str
  | lda
  | sta
  | dei
  | deo
  | add
  | sub
  | mul
  | div
  | and
  | ora
  | eor
  | sft
  -- `0x20..0x3F`: `2`
  | jci (imm : Short)
  | inc2
  | pop2
  | nip2
  | swp2
  | rot2
  | dup2
  | ovr2
  | equ2
  | neq2
  | gth2
  | lth2
  | jmp2
  | jcn2
  | jsr2
  | sth2
  | ldz2
  | stz2
  | ldr2
  | str2
  | lda2
  | sta2
  | dei2
  | deo2
  | add2
  | sub2
  | mul2
  | div2
  | and2
  | ora2
  | eor2
  | sft2
  -- `0x40..0x5F`: `r`
  | jmi (imm : Short)
  | incr
  | popr
  | nipr
  | swpr
  | rotr
  | dupr
  | ovrr
  | equr
  | neqr
  | gthr
  | lthr
  | jmpr
  | jcnr
  | jsrr
  | sthr
  | ldzr
  | stzr
  | ldrr
  | strr
  | ldar
  | star
  | deir
  | deor
  | addr
  | subr
  | mulr
  | divr
  | andr
  | orar
  | eorr
  | sftr
  -- `0x60..0x7F`: `2r`
  | jsi (imm : Short)
  | inc2r
  | pop2r
  | nip2r
  | swp2r
  | rot2r
  | dup2r
  | ovr2r
  | equ2r
  | neq2r
  | gth2r
  | lth2r
  | jmp2r
  | jcn2r
  | jsr2r
  | sth2r
  | ldz2r
  | stz2r
  | ldr2r
  | str2r
  | lda2r
  | sta2r
  | dei2r
  | deo2r
  | add2r
  | sub2r
  | mul2r
  | div2r
  | and2r
  | ora2r
  | eor2r
  | sft2r
  -- `0x80..0x9F`: `k`
  | lit (imm : Byte)
  | inck
  | popk
  | nipk
  | swpk
  | rotk
  | dupk
  | ovrk
  | equk
  | neqk
  | gthk
  | lthk
  | jmpk
  | jcnk
  | jsrk
  | sthk
  | ldzk
  | stzk
  | ldrk
  | strk
  | ldak
  | stak
  | deik
  | deok
  | addk
  | subk
  | mulk
  | divk
  | andk
  | orak
  | eork
  | sftk
  -- `0xA0..0xBF`: `2k`
  | lit2 (imm : Short)
  | inc2k
  | pop2k
  | nip2k
  | swp2k
  | rot2k
  | dup2k
  | ovr2k
  | equ2k
  | neq2k
  | gth2k
  | lth2k
  | jmp2k
  | jcn2k
  | jsr2k
  | sth2k
  | ldz2k
  | stz2k
  | ldr2k
  | str2k
  | lda2k
  | sta2k
  | dei2k
  | deo2k
  | add2k
  | sub2k
  | mul2k
  | div2k
  | and2k
  | ora2k
  | eor2k
  | sft2k
  -- `0xC0..0xDF`: `kr`
  | litr (imm : Byte)
  | inckr
  | popkr
  | nipkr
  | swpkr
  | rotkr
  | dupkr
  | ovrkr
  | equkr
  | neqkr
  | gthkr
  | lthkr
  | jmpkr
  | jcnkr
  | jsrkr
  | sthkr
  | ldzkr
  | stzkr
  | ldrkr
  | strkr
  | ldakr
  | stakr
  | deikr
  | deokr
  | addkr
  | subkr
  | mulkr
  | divkr
  | andkr
  | orakr
  | eorkr
  | sftkr
  -- `0xE0..0xFF`: `2kr`
  | lit2r (imm : Short)
  | inc2kr
  | pop2kr
  | nip2kr
  | swp2kr
  | rot2kr
  | dup2kr
  | ovr2kr
  | equ2kr
  | neq2kr
  | gth2kr
  | lth2kr
  | jmp2kr
  | jcn2kr
  | jsr2kr
  | sth2kr
  | ldz2kr
  | stz2kr
  | ldr2kr
  | str2kr
  | lda2kr
  | sta2kr
  | dei2kr
  | deo2kr
  | add2kr
  | sub2kr
  | mul2kr
  | div2kr
  | and2kr
  | ora2kr
  | eor2kr
  | sft2kr
deriving DecidableEq, Repr

/-- The 31 base operations whose opcodes have the mode fields: base field 0x01 to 0x1F, in the order of R72. -/
inductive Base where
  | inc
  | pop
  | nip
  | swp
  | rot
  | dup
  | ovr
  | equ
  | neq
  | gth
  | lth
  | jmp
  | jcn
  | jsr
  | sth
  | ldz
  | stz
  | ldr
  | str
  | lda
  | sta
  | dei
  | deo
  | add
  | sub
  | mul
  | div
  | and
  | ora
  | eor
  | sft
deriving DecidableEq, Repr

/-- The three mode fields of an opcode byte whose base field is not zero (R71, R93). They are part of the instruction, not
of the state (R35, R81). -/
structure Mode where
  /-- Bit 5, suffix `2`: the operation works on shorts. -/
  short : Bool
  /-- Bit 6, suffix `r`: the return stack is the active stack. -/
  ret : Bool
  /-- Bit 7, suffix `k`: operands stay on the stack. -/
  keep : Bool
deriving DecidableEq, Repr

/-- The opcode of a base operation in a mode: the 248 opcodes that are not immediate (R71, R83). The fields are written in
the order short, ret, keep. -/
def Instr.op : Base → Mode → Instr
  | .inc, ⟨false, false, false⟩ => .inc
  | .inc, ⟨true, false, false⟩ => .inc2
  | .inc, ⟨false, true, false⟩ => .incr
  | .inc, ⟨true, true, false⟩ => .inc2r
  | .inc, ⟨false, false, true⟩ => .inck
  | .inc, ⟨true, false, true⟩ => .inc2k
  | .inc, ⟨false, true, true⟩ => .inckr
  | .inc, ⟨true, true, true⟩ => .inc2kr
  | .pop, ⟨false, false, false⟩ => .pop
  | .pop, ⟨true, false, false⟩ => .pop2
  | .pop, ⟨false, true, false⟩ => .popr
  | .pop, ⟨true, true, false⟩ => .pop2r
  | .pop, ⟨false, false, true⟩ => .popk
  | .pop, ⟨true, false, true⟩ => .pop2k
  | .pop, ⟨false, true, true⟩ => .popkr
  | .pop, ⟨true, true, true⟩ => .pop2kr
  | .nip, ⟨false, false, false⟩ => .nip
  | .nip, ⟨true, false, false⟩ => .nip2
  | .nip, ⟨false, true, false⟩ => .nipr
  | .nip, ⟨true, true, false⟩ => .nip2r
  | .nip, ⟨false, false, true⟩ => .nipk
  | .nip, ⟨true, false, true⟩ => .nip2k
  | .nip, ⟨false, true, true⟩ => .nipkr
  | .nip, ⟨true, true, true⟩ => .nip2kr
  | .swp, ⟨false, false, false⟩ => .swp
  | .swp, ⟨true, false, false⟩ => .swp2
  | .swp, ⟨false, true, false⟩ => .swpr
  | .swp, ⟨true, true, false⟩ => .swp2r
  | .swp, ⟨false, false, true⟩ => .swpk
  | .swp, ⟨true, false, true⟩ => .swp2k
  | .swp, ⟨false, true, true⟩ => .swpkr
  | .swp, ⟨true, true, true⟩ => .swp2kr
  | .rot, ⟨false, false, false⟩ => .rot
  | .rot, ⟨true, false, false⟩ => .rot2
  | .rot, ⟨false, true, false⟩ => .rotr
  | .rot, ⟨true, true, false⟩ => .rot2r
  | .rot, ⟨false, false, true⟩ => .rotk
  | .rot, ⟨true, false, true⟩ => .rot2k
  | .rot, ⟨false, true, true⟩ => .rotkr
  | .rot, ⟨true, true, true⟩ => .rot2kr
  | .dup, ⟨false, false, false⟩ => .dup
  | .dup, ⟨true, false, false⟩ => .dup2
  | .dup, ⟨false, true, false⟩ => .dupr
  | .dup, ⟨true, true, false⟩ => .dup2r
  | .dup, ⟨false, false, true⟩ => .dupk
  | .dup, ⟨true, false, true⟩ => .dup2k
  | .dup, ⟨false, true, true⟩ => .dupkr
  | .dup, ⟨true, true, true⟩ => .dup2kr
  | .ovr, ⟨false, false, false⟩ => .ovr
  | .ovr, ⟨true, false, false⟩ => .ovr2
  | .ovr, ⟨false, true, false⟩ => .ovrr
  | .ovr, ⟨true, true, false⟩ => .ovr2r
  | .ovr, ⟨false, false, true⟩ => .ovrk
  | .ovr, ⟨true, false, true⟩ => .ovr2k
  | .ovr, ⟨false, true, true⟩ => .ovrkr
  | .ovr, ⟨true, true, true⟩ => .ovr2kr
  | .equ, ⟨false, false, false⟩ => .equ
  | .equ, ⟨true, false, false⟩ => .equ2
  | .equ, ⟨false, true, false⟩ => .equr
  | .equ, ⟨true, true, false⟩ => .equ2r
  | .equ, ⟨false, false, true⟩ => .equk
  | .equ, ⟨true, false, true⟩ => .equ2k
  | .equ, ⟨false, true, true⟩ => .equkr
  | .equ, ⟨true, true, true⟩ => .equ2kr
  | .neq, ⟨false, false, false⟩ => .neq
  | .neq, ⟨true, false, false⟩ => .neq2
  | .neq, ⟨false, true, false⟩ => .neqr
  | .neq, ⟨true, true, false⟩ => .neq2r
  | .neq, ⟨false, false, true⟩ => .neqk
  | .neq, ⟨true, false, true⟩ => .neq2k
  | .neq, ⟨false, true, true⟩ => .neqkr
  | .neq, ⟨true, true, true⟩ => .neq2kr
  | .gth, ⟨false, false, false⟩ => .gth
  | .gth, ⟨true, false, false⟩ => .gth2
  | .gth, ⟨false, true, false⟩ => .gthr
  | .gth, ⟨true, true, false⟩ => .gth2r
  | .gth, ⟨false, false, true⟩ => .gthk
  | .gth, ⟨true, false, true⟩ => .gth2k
  | .gth, ⟨false, true, true⟩ => .gthkr
  | .gth, ⟨true, true, true⟩ => .gth2kr
  | .lth, ⟨false, false, false⟩ => .lth
  | .lth, ⟨true, false, false⟩ => .lth2
  | .lth, ⟨false, true, false⟩ => .lthr
  | .lth, ⟨true, true, false⟩ => .lth2r
  | .lth, ⟨false, false, true⟩ => .lthk
  | .lth, ⟨true, false, true⟩ => .lth2k
  | .lth, ⟨false, true, true⟩ => .lthkr
  | .lth, ⟨true, true, true⟩ => .lth2kr
  | .jmp, ⟨false, false, false⟩ => .jmp
  | .jmp, ⟨true, false, false⟩ => .jmp2
  | .jmp, ⟨false, true, false⟩ => .jmpr
  | .jmp, ⟨true, true, false⟩ => .jmp2r
  | .jmp, ⟨false, false, true⟩ => .jmpk
  | .jmp, ⟨true, false, true⟩ => .jmp2k
  | .jmp, ⟨false, true, true⟩ => .jmpkr
  | .jmp, ⟨true, true, true⟩ => .jmp2kr
  | .jcn, ⟨false, false, false⟩ => .jcn
  | .jcn, ⟨true, false, false⟩ => .jcn2
  | .jcn, ⟨false, true, false⟩ => .jcnr
  | .jcn, ⟨true, true, false⟩ => .jcn2r
  | .jcn, ⟨false, false, true⟩ => .jcnk
  | .jcn, ⟨true, false, true⟩ => .jcn2k
  | .jcn, ⟨false, true, true⟩ => .jcnkr
  | .jcn, ⟨true, true, true⟩ => .jcn2kr
  | .jsr, ⟨false, false, false⟩ => .jsr
  | .jsr, ⟨true, false, false⟩ => .jsr2
  | .jsr, ⟨false, true, false⟩ => .jsrr
  | .jsr, ⟨true, true, false⟩ => .jsr2r
  | .jsr, ⟨false, false, true⟩ => .jsrk
  | .jsr, ⟨true, false, true⟩ => .jsr2k
  | .jsr, ⟨false, true, true⟩ => .jsrkr
  | .jsr, ⟨true, true, true⟩ => .jsr2kr
  | .sth, ⟨false, false, false⟩ => .sth
  | .sth, ⟨true, false, false⟩ => .sth2
  | .sth, ⟨false, true, false⟩ => .sthr
  | .sth, ⟨true, true, false⟩ => .sth2r
  | .sth, ⟨false, false, true⟩ => .sthk
  | .sth, ⟨true, false, true⟩ => .sth2k
  | .sth, ⟨false, true, true⟩ => .sthkr
  | .sth, ⟨true, true, true⟩ => .sth2kr
  | .ldz, ⟨false, false, false⟩ => .ldz
  | .ldz, ⟨true, false, false⟩ => .ldz2
  | .ldz, ⟨false, true, false⟩ => .ldzr
  | .ldz, ⟨true, true, false⟩ => .ldz2r
  | .ldz, ⟨false, false, true⟩ => .ldzk
  | .ldz, ⟨true, false, true⟩ => .ldz2k
  | .ldz, ⟨false, true, true⟩ => .ldzkr
  | .ldz, ⟨true, true, true⟩ => .ldz2kr
  | .stz, ⟨false, false, false⟩ => .stz
  | .stz, ⟨true, false, false⟩ => .stz2
  | .stz, ⟨false, true, false⟩ => .stzr
  | .stz, ⟨true, true, false⟩ => .stz2r
  | .stz, ⟨false, false, true⟩ => .stzk
  | .stz, ⟨true, false, true⟩ => .stz2k
  | .stz, ⟨false, true, true⟩ => .stzkr
  | .stz, ⟨true, true, true⟩ => .stz2kr
  | .ldr, ⟨false, false, false⟩ => .ldr
  | .ldr, ⟨true, false, false⟩ => .ldr2
  | .ldr, ⟨false, true, false⟩ => .ldrr
  | .ldr, ⟨true, true, false⟩ => .ldr2r
  | .ldr, ⟨false, false, true⟩ => .ldrk
  | .ldr, ⟨true, false, true⟩ => .ldr2k
  | .ldr, ⟨false, true, true⟩ => .ldrkr
  | .ldr, ⟨true, true, true⟩ => .ldr2kr
  | .str, ⟨false, false, false⟩ => .str
  | .str, ⟨true, false, false⟩ => .str2
  | .str, ⟨false, true, false⟩ => .strr
  | .str, ⟨true, true, false⟩ => .str2r
  | .str, ⟨false, false, true⟩ => .strk
  | .str, ⟨true, false, true⟩ => .str2k
  | .str, ⟨false, true, true⟩ => .strkr
  | .str, ⟨true, true, true⟩ => .str2kr
  | .lda, ⟨false, false, false⟩ => .lda
  | .lda, ⟨true, false, false⟩ => .lda2
  | .lda, ⟨false, true, false⟩ => .ldar
  | .lda, ⟨true, true, false⟩ => .lda2r
  | .lda, ⟨false, false, true⟩ => .ldak
  | .lda, ⟨true, false, true⟩ => .lda2k
  | .lda, ⟨false, true, true⟩ => .ldakr
  | .lda, ⟨true, true, true⟩ => .lda2kr
  | .sta, ⟨false, false, false⟩ => .sta
  | .sta, ⟨true, false, false⟩ => .sta2
  | .sta, ⟨false, true, false⟩ => .star
  | .sta, ⟨true, true, false⟩ => .sta2r
  | .sta, ⟨false, false, true⟩ => .stak
  | .sta, ⟨true, false, true⟩ => .sta2k
  | .sta, ⟨false, true, true⟩ => .stakr
  | .sta, ⟨true, true, true⟩ => .sta2kr
  | .dei, ⟨false, false, false⟩ => .dei
  | .dei, ⟨true, false, false⟩ => .dei2
  | .dei, ⟨false, true, false⟩ => .deir
  | .dei, ⟨true, true, false⟩ => .dei2r
  | .dei, ⟨false, false, true⟩ => .deik
  | .dei, ⟨true, false, true⟩ => .dei2k
  | .dei, ⟨false, true, true⟩ => .deikr
  | .dei, ⟨true, true, true⟩ => .dei2kr
  | .deo, ⟨false, false, false⟩ => .deo
  | .deo, ⟨true, false, false⟩ => .deo2
  | .deo, ⟨false, true, false⟩ => .deor
  | .deo, ⟨true, true, false⟩ => .deo2r
  | .deo, ⟨false, false, true⟩ => .deok
  | .deo, ⟨true, false, true⟩ => .deo2k
  | .deo, ⟨false, true, true⟩ => .deokr
  | .deo, ⟨true, true, true⟩ => .deo2kr
  | .add, ⟨false, false, false⟩ => .add
  | .add, ⟨true, false, false⟩ => .add2
  | .add, ⟨false, true, false⟩ => .addr
  | .add, ⟨true, true, false⟩ => .add2r
  | .add, ⟨false, false, true⟩ => .addk
  | .add, ⟨true, false, true⟩ => .add2k
  | .add, ⟨false, true, true⟩ => .addkr
  | .add, ⟨true, true, true⟩ => .add2kr
  | .sub, ⟨false, false, false⟩ => .sub
  | .sub, ⟨true, false, false⟩ => .sub2
  | .sub, ⟨false, true, false⟩ => .subr
  | .sub, ⟨true, true, false⟩ => .sub2r
  | .sub, ⟨false, false, true⟩ => .subk
  | .sub, ⟨true, false, true⟩ => .sub2k
  | .sub, ⟨false, true, true⟩ => .subkr
  | .sub, ⟨true, true, true⟩ => .sub2kr
  | .mul, ⟨false, false, false⟩ => .mul
  | .mul, ⟨true, false, false⟩ => .mul2
  | .mul, ⟨false, true, false⟩ => .mulr
  | .mul, ⟨true, true, false⟩ => .mul2r
  | .mul, ⟨false, false, true⟩ => .mulk
  | .mul, ⟨true, false, true⟩ => .mul2k
  | .mul, ⟨false, true, true⟩ => .mulkr
  | .mul, ⟨true, true, true⟩ => .mul2kr
  | .div, ⟨false, false, false⟩ => .div
  | .div, ⟨true, false, false⟩ => .div2
  | .div, ⟨false, true, false⟩ => .divr
  | .div, ⟨true, true, false⟩ => .div2r
  | .div, ⟨false, false, true⟩ => .divk
  | .div, ⟨true, false, true⟩ => .div2k
  | .div, ⟨false, true, true⟩ => .divkr
  | .div, ⟨true, true, true⟩ => .div2kr
  | .and, ⟨false, false, false⟩ => .and
  | .and, ⟨true, false, false⟩ => .and2
  | .and, ⟨false, true, false⟩ => .andr
  | .and, ⟨true, true, false⟩ => .and2r
  | .and, ⟨false, false, true⟩ => .andk
  | .and, ⟨true, false, true⟩ => .and2k
  | .and, ⟨false, true, true⟩ => .andkr
  | .and, ⟨true, true, true⟩ => .and2kr
  | .ora, ⟨false, false, false⟩ => .ora
  | .ora, ⟨true, false, false⟩ => .ora2
  | .ora, ⟨false, true, false⟩ => .orar
  | .ora, ⟨true, true, false⟩ => .ora2r
  | .ora, ⟨false, false, true⟩ => .orak
  | .ora, ⟨true, false, true⟩ => .ora2k
  | .ora, ⟨false, true, true⟩ => .orakr
  | .ora, ⟨true, true, true⟩ => .ora2kr
  | .eor, ⟨false, false, false⟩ => .eor
  | .eor, ⟨true, false, false⟩ => .eor2
  | .eor, ⟨false, true, false⟩ => .eorr
  | .eor, ⟨true, true, false⟩ => .eor2r
  | .eor, ⟨false, false, true⟩ => .eork
  | .eor, ⟨true, false, true⟩ => .eor2k
  | .eor, ⟨false, true, true⟩ => .eorkr
  | .eor, ⟨true, true, true⟩ => .eor2kr
  | .sft, ⟨false, false, false⟩ => .sft
  | .sft, ⟨true, false, false⟩ => .sft2
  | .sft, ⟨false, true, false⟩ => .sftr
  | .sft, ⟨true, true, false⟩ => .sft2r
  | .sft, ⟨false, false, true⟩ => .sftk
  | .sft, ⟨true, false, true⟩ => .sft2k
  | .sft, ⟨false, true, true⟩ => .sftkr
  | .sft, ⟨true, true, true⟩ => .sft2kr

end Sys2Proof
end

