-- ==== Sys2Proof/Decode.lean ====
section
/-!
DEFINITION. Decoding and encoding (30_encoding.md). The decoder is the table of R78, one row per opcode byte, written from
the "encoding" column of spec/opcode_table.json; R74: the handler is selected by the raw byte. After it the encoder, written
from the same table's "opcode" column, and the byte-order helpers both use.
-/

namespace Sys2Proof

/-- `concat(hi, lo) = hi * 256 + lo` (R9). -/
def concatBytes (hi lo : Byte) : Short := hi ++ lo

/-- The high byte `v[15:8]` of a short (R8). -/
def hiByte (v : Short) : Byte := v.extractLsb' 8 8

/-- The low byte `v[7:0]` of a short (R8). -/
def loByte (v : Short) : Byte := v.extractLsb' 0 8

/-- The length in bytes of the instruction that begins with this opcode byte (R77): 2 for `0x80` and `0xC0`; 3 for `0x20`,
`0x40`, `0x60`, `0xA0` and `0xE0`; 1 for every other byte. -/
def lengthOfOpcode (op : Byte) : Nat :=
  if op = 0x80 ∨ op = 0xC0 then 2
  else if op = 0x20 ∨ op = 0x40 ∨ op = 0x60 ∨ op = 0xA0 ∨ op = 0xE0 then 3
  else 1

/-- The instruction whose opcode byte is `op` and whose following bytes are `b1`, `b2` (an instruction shorter than three
bytes does not read the bytes after its own). Total: R74 and R79 give every opcode byte exactly one instruction, so no row
refuses. The eight bits of the opcode byte stand from bit 7 down to bit 0, as in the table's "encoding" column; the 16-bit
immediate is big-endian (R75). -/
def decodeBytes (op b1 b2 : Byte) : Instr :=
  match op.getLsbD 7, op.getLsbD 6, op.getLsbD 5, op.getLsbD 4, op.getLsbD 3, op.getLsbD 2, op.getLsbD 1, op.getLsbD 0 with
  | false, false, false, false, false, false, false, false => .brk
  | false, false, false, false, false, false, false, true => .inc
  | false, false, false, false, false, false, true, false => .pop
  | false, false, false, false, false, false, true, true => .nip
  | false, false, false, false, false, true, false, false => .swp
  | false, false, false, false, false, true, false, true => .rot
  | false, false, false, false, false, true, true, false => .dup
  | false, false, false, false, false, true, true, true => .ovr
  | false, false, false, false, true, false, false, false => .equ
  | false, false, false, false, true, false, false, true => .neq
  | false, false, false, false, true, false, true, false => .gth
  | false, false, false, false, true, false, true, true => .lth
  | false, false, false, false, true, true, false, false => .jmp
  | false, false, false, false, true, true, false, true => .jcn
  | false, false, false, false, true, true, true, false => .jsr
  | false, false, false, false, true, true, true, true => .sth
  | false, false, false, true, false, false, false, false => .ldz
  | false, false, false, true, false, false, false, true => .stz
  | false, false, false, true, false, false, true, false => .ldr
  | false, false, false, true, false, false, true, true => .str
  | false, false, false, true, false, true, false, false => .lda
  | false, false, false, true, false, true, false, true => .sta
  | false, false, false, true, false, true, true, false => .dei
  | false, false, false, true, false, true, true, true => .deo
  | false, false, false, true, true, false, false, false => .add
  | false, false, false, true, true, false, false, true => .sub
  | false, false, false, true, true, false, true, false => .mul
  | false, false, false, true, true, false, true, true => .div
  | false, false, false, true, true, true, false, false => .and
  | false, false, false, true, true, true, false, true => .ora
  | false, false, false, true, true, true, true, false => .eor
  | false, false, false, true, true, true, true, true => .sft
  | false, false, true, false, false, false, false, false => .jci (concatBytes b1 b2)
  | false, false, true, false, false, false, false, true => .inc2
  | false, false, true, false, false, false, true, false => .pop2
  | false, false, true, false, false, false, true, true => .nip2
  | false, false, true, false, false, true, false, false => .swp2
  | false, false, true, false, false, true, false, true => .rot2
  | false, false, true, false, false, true, true, false => .dup2
  | false, false, true, false, false, true, true, true => .ovr2
  | false, false, true, false, true, false, false, false => .equ2
  | false, false, true, false, true, false, false, true => .neq2
  | false, false, true, false, true, false, true, false => .gth2
  | false, false, true, false, true, false, true, true => .lth2
  | false, false, true, false, true, true, false, false => .jmp2
  | false, false, true, false, true, true, false, true => .jcn2
  | false, false, true, false, true, true, true, false => .jsr2
  | false, false, true, false, true, true, true, true => .sth2
  | false, false, true, true, false, false, false, false => .ldz2
  | false, false, true, true, false, false, false, true => .stz2
  | false, false, true, true, false, false, true, false => .ldr2
  | false, false, true, true, false, false, true, true => .str2
  | false, false, true, true, false, true, false, false => .lda2
  | false, false, true, true, false, true, false, true => .sta2
  | false, false, true, true, false, true, true, false => .dei2
  | false, false, true, true, false, true, true, true => .deo2
  | false, false, true, true, true, false, false, false => .add2
  | false, false, true, true, true, false, false, true => .sub2
  | false, false, true, true, true, false, true, false => .mul2
  | false, false, true, true, true, false, true, true => .div2
  | false, false, true, true, true, true, false, false => .and2
  | false, false, true, true, true, true, false, true => .ora2
  | false, false, true, true, true, true, true, false => .eor2
  | false, false, true, true, true, true, true, true => .sft2
  | false, true, false, false, false, false, false, false => .jmi (concatBytes b1 b2)
  | false, true, false, false, false, false, false, true => .incr
  | false, true, false, false, false, false, true, false => .popr
  | false, true, false, false, false, false, true, true => .nipr
  | false, true, false, false, false, true, false, false => .swpr
  | false, true, false, false, false, true, false, true => .rotr
  | false, true, false, false, false, true, true, false => .dupr
  | false, true, false, false, false, true, true, true => .ovrr
  | false, true, false, false, true, false, false, false => .equr
  | false, true, false, false, true, false, false, true => .neqr
  | false, true, false, false, true, false, true, false => .gthr
  | false, true, false, false, true, false, true, true => .lthr
  | false, true, false, false, true, true, false, false => .jmpr
  | false, true, false, false, true, true, false, true => .jcnr
  | false, true, false, false, true, true, true, false => .jsrr
  | false, true, false, false, true, true, true, true => .sthr
  | false, true, false, true, false, false, false, false => .ldzr
  | false, true, false, true, false, false, false, true => .stzr
  | false, true, false, true, false, false, true, false => .ldrr
  | false, true, false, true, false, false, true, true => .strr
  | false, true, false, true, false, true, false, false => .ldar
  | false, true, false, true, false, true, false, true => .star
  | false, true, false, true, false, true, true, false => .deir
  | false, true, false, true, false, true, true, true => .deor
  | false, true, false, true, true, false, false, false => .addr
  | false, true, false, true, true, false, false, true => .subr
  | false, true, false, true, true, false, true, false => .mulr
  | false, true, false, true, true, false, true, true => .divr
  | false, true, false, true, true, true, false, false => .andr
  | false, true, false, true, true, true, false, true => .orar
  | false, true, false, true, true, true, true, false => .eorr
  | false, true, false, true, true, true, true, true => .sftr
  | false, true, true, false, false, false, false, false => .jsi (concatBytes b1 b2)
  | false, true, true, false, false, false, false, true => .inc2r
  | false, true, true, false, false, false, true, false => .pop2r
  | false, true, true, false, false, false, true, true => .nip2r
  | false, true, true, false, false, true, false, false => .swp2r
  | false, true, true, false, false, true, false, true => .rot2r
  | false, true, true, false, false, true, true, false => .dup2r
  | false, true, true, false, false, true, true, true => .ovr2r
  | false, true, true, false, true, false, false, false => .equ2r
  | false, true, true, false, true, false, false, true => .neq2r
  | false, true, true, false, true, false, true, false => .gth2r
  | false, true, true, false, true, false, true, true => .lth2r
  | false, true, true, false, true, true, false, false => .jmp2r
  | false, true, true, false, true, true, false, true => .jcn2r
  | false, true, true, false, true, true, true, false => .jsr2r
  | false, true, true, false, true, true, true, true => .sth2r
  | false, true, true, true, false, false, false, false => .ldz2r
  | false, true, true, true, false, false, false, true => .stz2r
  | false, true, true, true, false, false, true, false => .ldr2r
  | false, true, true, true, false, false, true, true => .str2r
  | false, true, true, true, false, true, false, false => .lda2r
  | false, true, true, true, false, true, false, true => .sta2r
  | false, true, true, true, false, true, true, false => .dei2r
  | false, true, true, true, false, true, true, true => .deo2r
  | false, true, true, true, true, false, false, false => .add2r
  | false, true, true, true, true, false, false, true => .sub2r
  | false, true, true, true, true, false, true, false => .mul2r
  | false, true, true, true, true, false, true, true => .div2r
  | false, true, true, true, true, true, false, false => .and2r
  | false, true, true, true, true, true, false, true => .ora2r
  | false, true, true, true, true, true, true, false => .eor2r
  | false, true, true, true, true, true, true, true => .sft2r
  | true, false, false, false, false, false, false, false => .lit b1
  | true, false, false, false, false, false, false, true => .inck
  | true, false, false, false, false, false, true, false => .popk
  | true, false, false, false, false, false, true, true => .nipk
  | true, false, false, false, false, true, false, false => .swpk
  | true, false, false, false, false, true, false, true => .rotk
  | true, false, false, false, false, true, true, false => .dupk
  | true, false, false, false, false, true, true, true => .ovrk
  | true, false, false, false, true, false, false, false => .equk
  | true, false, false, false, true, false, false, true => .neqk
  | true, false, false, false, true, false, true, false => .gthk
  | true, false, false, false, true, false, true, true => .lthk
  | true, false, false, false, true, true, false, false => .jmpk
  | true, false, false, false, true, true, false, true => .jcnk
  | true, false, false, false, true, true, true, false => .jsrk
  | true, false, false, false, true, true, true, true => .sthk
  | true, false, false, true, false, false, false, false => .ldzk
  | true, false, false, true, false, false, false, true => .stzk
  | true, false, false, true, false, false, true, false => .ldrk
  | true, false, false, true, false, false, true, true => .strk
  | true, false, false, true, false, true, false, false => .ldak
  | true, false, false, true, false, true, false, true => .stak
  | true, false, false, true, false, true, true, false => .deik
  | true, false, false, true, false, true, true, true => .deok
  | true, false, false, true, true, false, false, false => .addk
  | true, false, false, true, true, false, false, true => .subk
  | true, false, false, true, true, false, true, false => .mulk
  | true, false, false, true, true, false, true, true => .divk
  | true, false, false, true, true, true, false, false => .andk
  | true, false, false, true, true, true, false, true => .orak
  | true, false, false, true, true, true, true, false => .eork
  | true, false, false, true, true, true, true, true => .sftk
  | true, false, true, false, false, false, false, false => .lit2 (concatBytes b1 b2)
  | true, false, true, false, false, false, false, true => .inc2k
  | true, false, true, false, false, false, true, false => .pop2k
  | true, false, true, false, false, false, true, true => .nip2k
  | true, false, true, false, false, true, false, false => .swp2k
  | true, false, true, false, false, true, false, true => .rot2k
  | true, false, true, false, false, true, true, false => .dup2k
  | true, false, true, false, false, true, true, true => .ovr2k
  | true, false, true, false, true, false, false, false => .equ2k
  | true, false, true, false, true, false, false, true => .neq2k
  | true, false, true, false, true, false, true, false => .gth2k
  | true, false, true, false, true, false, true, true => .lth2k
  | true, false, true, false, true, true, false, false => .jmp2k
  | true, false, true, false, true, true, false, true => .jcn2k
  | true, false, true, false, true, true, true, false => .jsr2k
  | true, false, true, false, true, true, true, true => .sth2k
  | true, false, true, true, false, false, false, false => .ldz2k
  | true, false, true, true, false, false, false, true => .stz2k
  | true, false, true, true, false, false, true, false => .ldr2k
  | true, false, true, true, false, false, true, true => .str2k
  | true, false, true, true, false, true, false, false => .lda2k
  | true, false, true, true, false, true, false, true => .sta2k
  | true, false, true, true, false, true, true, false => .dei2k
  | true, false, true, true, false, true, true, true => .deo2k
  | true, false, true, true, true, false, false, false => .add2k
  | true, false, true, true, true, false, false, true => .sub2k
  | true, false, true, true, true, false, true, false => .mul2k
  | true, false, true, true, true, false, true, true => .div2k
  | true, false, true, true, true, true, false, false => .and2k
  | true, false, true, true, true, true, false, true => .ora2k
  | true, false, true, true, true, true, true, false => .eor2k
  | true, false, true, true, true, true, true, true => .sft2k
  | true, true, false, false, false, false, false, false => .litr b1
  | true, true, false, false, false, false, false, true => .inckr
  | true, true, false, false, false, false, true, false => .popkr
  | true, true, false, false, false, false, true, true => .nipkr
  | true, true, false, false, false, true, false, false => .swpkr
  | true, true, false, false, false, true, false, true => .rotkr
  | true, true, false, false, false, true, true, false => .dupkr
  | true, true, false, false, false, true, true, true => .ovrkr
  | true, true, false, false, true, false, false, false => .equkr
  | true, true, false, false, true, false, false, true => .neqkr
  | true, true, false, false, true, false, true, false => .gthkr
  | true, true, false, false, true, false, true, true => .lthkr
  | true, true, false, false, true, true, false, false => .jmpkr
  | true, true, false, false, true, true, false, true => .jcnkr
  | true, true, false, false, true, true, true, false => .jsrkr
  | true, true, false, false, true, true, true, true => .sthkr
  | true, true, false, true, false, false, false, false => .ldzkr
  | true, true, false, true, false, false, false, true => .stzkr
  | true, true, false, true, false, false, true, false => .ldrkr
  | true, true, false, true, false, false, true, true => .strkr
  | true, true, false, true, false, true, false, false => .ldakr
  | true, true, false, true, false, true, false, true => .stakr
  | true, true, false, true, false, true, true, false => .deikr
  | true, true, false, true, false, true, true, true => .deokr
  | true, true, false, true, true, false, false, false => .addkr
  | true, true, false, true, true, false, false, true => .subkr
  | true, true, false, true, true, false, true, false => .mulkr
  | true, true, false, true, true, false, true, true => .divkr
  | true, true, false, true, true, true, false, false => .andkr
  | true, true, false, true, true, true, false, true => .orakr
  | true, true, false, true, true, true, true, false => .eorkr
  | true, true, false, true, true, true, true, true => .sftkr
  | true, true, true, false, false, false, false, false => .lit2r (concatBytes b1 b2)
  | true, true, true, false, false, false, false, true => .inc2kr
  | true, true, true, false, false, false, true, false => .pop2kr
  | true, true, true, false, false, false, true, true => .nip2kr
  | true, true, true, false, false, true, false, false => .swp2kr
  | true, true, true, false, false, true, false, true => .rot2kr
  | true, true, true, false, false, true, true, false => .dup2kr
  | true, true, true, false, false, true, true, true => .ovr2kr
  | true, true, true, false, true, false, false, false => .equ2kr
  | true, true, true, false, true, false, false, true => .neq2kr
  | true, true, true, false, true, false, true, false => .gth2kr
  | true, true, true, false, true, false, true, true => .lth2kr
  | true, true, true, false, true, true, false, false => .jmp2kr
  | true, true, true, false, true, true, false, true => .jcn2kr
  | true, true, true, false, true, true, true, false => .jsr2kr
  | true, true, true, false, true, true, true, true => .sth2kr
  | true, true, true, true, false, false, false, false => .ldz2kr
  | true, true, true, true, false, false, false, true => .stz2kr
  | true, true, true, true, false, false, true, false => .ldr2kr
  | true, true, true, true, false, false, true, true => .str2kr
  | true, true, true, true, false, true, false, false => .lda2kr
  | true, true, true, true, false, true, false, true => .sta2kr
  | true, true, true, true, false, true, true, false => .dei2kr
  | true, true, true, true, false, true, true, true => .deo2kr
  | true, true, true, true, true, false, false, false => .add2kr
  | true, true, true, true, true, false, false, true => .sub2kr
  | true, true, true, true, true, false, true, false => .mul2kr
  | true, true, true, true, true, false, true, true => .div2kr
  | true, true, true, true, true, true, false, false => .and2kr
  | true, true, true, true, true, true, false, true => .ora2kr
  | true, true, true, true, true, true, true, false => .eor2kr
  | true, true, true, true, true, true, true, true => .sft2kr

/-- Why a byte string is not read as an instruction. Raised by `decode` only; the machine's own fetch always has three bytes
to give (R55) and cannot meet either. -/
inductive DecodeError where
  /-- There is no opcode byte. -/
  | noOpcodeByte
  /-- The opcode byte needs more immediate bytes than follow it (R70, R77). -/
  | immediateMissing (op : Byte)
deriving DecidableEq, Repr

/-- Decode the instruction at the front of a byte string, with the bytes that follow it. Total on any bytes: a string too
short for its instruction (R70, R77) is refused by name; no opcode byte is (R79). -/
def decode : List Byte → Except DecodeError (Instr × List Byte)
  | [] => .error .noOpcodeByte
  | op :: rest =>
    if rest.length + 1 < lengthOfOpcode op then .error (.immediateMissing op)
    else .ok (decodeBytes op (rest.getD 0 0) (rest.getD 1 0), rest.drop (lengthOfOpcode op - 1))

/-- The opcode byte of an instruction: the "opcode" column of spec/opcode_table.json (R73, R78, R84). -/
def opcode : Instr → Byte
  | .brk => 0x00
  | .inc => 0x01
  | .pop => 0x02
  | .nip => 0x03
  | .swp => 0x04
  | .rot => 0x05
  | .dup => 0x06
  | .ovr => 0x07
  | .equ => 0x08
  | .neq => 0x09
  | .gth => 0x0A
  | .lth => 0x0B
  | .jmp => 0x0C
  | .jcn => 0x0D
  | .jsr => 0x0E
  | .sth => 0x0F
  | .ldz => 0x10
  | .stz => 0x11
  | .ldr => 0x12
  | .str => 0x13
  | .lda => 0x14
  | .sta => 0x15
  | .dei => 0x16
  | .deo => 0x17
  | .add => 0x18
  | .sub => 0x19
  | .mul => 0x1A
  | .div => 0x1B
  | .and => 0x1C
  | .ora => 0x1D
  | .eor => 0x1E
  | .sft => 0x1F
  | .jci _ => 0x20
  | .inc2 => 0x21
  | .pop2 => 0x22
  | .nip2 => 0x23
  | .swp2 => 0x24
  | .rot2 => 0x25
  | .dup2 => 0x26
  | .ovr2 => 0x27
  | .equ2 => 0x28
  | .neq2 => 0x29
  | .gth2 => 0x2A
  | .lth2 => 0x2B
  | .jmp2 => 0x2C
  | .jcn2 => 0x2D
  | .jsr2 => 0x2E
  | .sth2 => 0x2F
  | .ldz2 => 0x30
  | .stz2 => 0x31
  | .ldr2 => 0x32
  | .str2 => 0x33
  | .lda2 => 0x34
  | .sta2 => 0x35
  | .dei2 => 0x36
  | .deo2 => 0x37
  | .add2 => 0x38
  | .sub2 => 0x39
  | .mul2 => 0x3A
  | .div2 => 0x3B
  | .and2 => 0x3C
  | .ora2 => 0x3D
  | .eor2 => 0x3E
  | .sft2 => 0x3F
  | .jmi _ => 0x40
  | .incr => 0x41
  | .popr => 0x42
  | .nipr => 0x43
  | .swpr => 0x44
  | .rotr => 0x45
  | .dupr => 0x46
  | .ovrr => 0x47
  | .equr => 0x48
  | .neqr => 0x49
  | .gthr => 0x4A
  | .lthr => 0x4B
  | .jmpr => 0x4C
  | .jcnr => 0x4D
  | .jsrr => 0x4E
  | .sthr => 0x4F
  | .ldzr => 0x50
  | .stzr => 0x51
  | .ldrr => 0x52
  | .strr => 0x53
  | .ldar => 0x54
  | .star => 0x55
  | .deir => 0x56
  | .deor => 0x57
  | .addr => 0x58
  | .subr => 0x59
  | .mulr => 0x5A
  | .divr => 0x5B
  | .andr => 0x5C
  | .orar => 0x5D
  | .eorr => 0x5E
  | .sftr => 0x5F
  | .jsi _ => 0x60
  | .inc2r => 0x61
  | .pop2r => 0x62
  | .nip2r => 0x63
  | .swp2r => 0x64
  | .rot2r => 0x65
  | .dup2r => 0x66
  | .ovr2r => 0x67
  | .equ2r => 0x68
  | .neq2r => 0x69
  | .gth2r => 0x6A
  | .lth2r => 0x6B
  | .jmp2r => 0x6C
  | .jcn2r => 0x6D
  | .jsr2r => 0x6E
  | .sth2r => 0x6F
  | .ldz2r => 0x70
  | .stz2r => 0x71
  | .ldr2r => 0x72
  | .str2r => 0x73
  | .lda2r => 0x74
  | .sta2r => 0x75
  | .dei2r => 0x76
  | .deo2r => 0x77
  | .add2r => 0x78
  | .sub2r => 0x79
  | .mul2r => 0x7A
  | .div2r => 0x7B
  | .and2r => 0x7C
  | .ora2r => 0x7D
  | .eor2r => 0x7E
  | .sft2r => 0x7F
  | .lit _ => 0x80
  | .inck => 0x81
  | .popk => 0x82
  | .nipk => 0x83
  | .swpk => 0x84
  | .rotk => 0x85
  | .dupk => 0x86
  | .ovrk => 0x87
  | .equk => 0x88
  | .neqk => 0x89
  | .gthk => 0x8A
  | .lthk => 0x8B
  | .jmpk => 0x8C
  | .jcnk => 0x8D
  | .jsrk => 0x8E
  | .sthk => 0x8F
  | .ldzk => 0x90
  | .stzk => 0x91
  | .ldrk => 0x92
  | .strk => 0x93
  | .ldak => 0x94
  | .stak => 0x95
  | .deik => 0x96
  | .deok => 0x97
  | .addk => 0x98
  | .subk => 0x99
  | .mulk => 0x9A
  | .divk => 0x9B
  | .andk => 0x9C
  | .orak => 0x9D
  | .eork => 0x9E
  | .sftk => 0x9F
  | .lit2 _ => 0xA0
  | .inc2k => 0xA1
  | .pop2k => 0xA2
  | .nip2k => 0xA3
  | .swp2k => 0xA4
  | .rot2k => 0xA5
  | .dup2k => 0xA6
  | .ovr2k => 0xA7
  | .equ2k => 0xA8
  | .neq2k => 0xA9
  | .gth2k => 0xAA
  | .lth2k => 0xAB
  | .jmp2k => 0xAC
  | .jcn2k => 0xAD
  | .jsr2k => 0xAE
  | .sth2k => 0xAF
  | .ldz2k => 0xB0
  | .stz2k => 0xB1
  | .ldr2k => 0xB2
  | .str2k => 0xB3
  | .lda2k => 0xB4
  | .sta2k => 0xB5
  | .dei2k => 0xB6
  | .deo2k => 0xB7
  | .add2k => 0xB8
  | .sub2k => 0xB9
  | .mul2k => 0xBA
  | .div2k => 0xBB
  | .and2k => 0xBC
  | .ora2k => 0xBD
  | .eor2k => 0xBE
  | .sft2k => 0xBF
  | .litr _ => 0xC0
  | .inckr => 0xC1
  | .popkr => 0xC2
  | .nipkr => 0xC3
  | .swpkr => 0xC4
  | .rotkr => 0xC5
  | .dupkr => 0xC6
  | .ovrkr => 0xC7
  | .equkr => 0xC8
  | .neqkr => 0xC9
  | .gthkr => 0xCA
  | .lthkr => 0xCB
  | .jmpkr => 0xCC
  | .jcnkr => 0xCD
  | .jsrkr => 0xCE
  | .sthkr => 0xCF
  | .ldzkr => 0xD0
  | .stzkr => 0xD1
  | .ldrkr => 0xD2
  | .strkr => 0xD3
  | .ldakr => 0xD4
  | .stakr => 0xD5
  | .deikr => 0xD6
  | .deokr => 0xD7
  | .addkr => 0xD8
  | .subkr => 0xD9
  | .mulkr => 0xDA
  | .divkr => 0xDB
  | .andkr => 0xDC
  | .orakr => 0xDD
  | .eorkr => 0xDE
  | .sftkr => 0xDF
  | .lit2r _ => 0xE0
  | .inc2kr => 0xE1
  | .pop2kr => 0xE2
  | .nip2kr => 0xE3
  | .swp2kr => 0xE4
  | .rot2kr => 0xE5
  | .dup2kr => 0xE6
  | .ovr2kr => 0xE7
  | .equ2kr => 0xE8
  | .neq2kr => 0xE9
  | .gth2kr => 0xEA
  | .lth2kr => 0xEB
  | .jmp2kr => 0xEC
  | .jcn2kr => 0xED
  | .jsr2kr => 0xEE
  | .sth2kr => 0xEF
  | .ldz2kr => 0xF0
  | .stz2kr => 0xF1
  | .ldr2kr => 0xF2
  | .str2kr => 0xF3
  | .lda2kr => 0xF4
  | .sta2kr => 0xF5
  | .dei2kr => 0xF6
  | .deo2kr => 0xF7
  | .add2kr => 0xF8
  | .sub2kr => 0xF9
  | .mul2kr => 0xFA
  | .div2kr => 0xFB
  | .and2kr => 0xFC
  | .ora2kr => 0xFD
  | .eor2kr => 0xFE
  | .sft2kr => 0xFF

/-- The immediate bytes that follow the opcode byte, high byte first (R70, R75). -/
def immediateBytes : Instr → List Byte
  | .jci imm => [hiByte imm, loByte imm]
  | .jmi imm => [hiByte imm, loByte imm]
  | .jsi imm => [hiByte imm, loByte imm]
  | .lit imm => [imm]
  | .lit2 imm => [hiByte imm, loByte imm]
  | .litr imm => [imm]
  | .lit2r imm => [hiByte imm, loByte imm]
  | .brk | .inc | .pop | .nip | .swp | .rot | .dup | .ovr | .equ | .neq
  | .gth | .lth | .jmp | .jcn | .jsr | .sth | .ldz | .stz | .ldr | .str
  | .lda | .sta | .dei | .deo | .add | .sub | .mul | .div | .and | .ora
  | .eor | .sft | .inc2 | .pop2 | .nip2 | .swp2 | .rot2 | .dup2 | .ovr2 | .equ2
  | .neq2 | .gth2 | .lth2 | .jmp2 | .jcn2 | .jsr2 | .sth2 | .ldz2 | .stz2 | .ldr2
  | .str2 | .lda2 | .sta2 | .dei2 | .deo2 | .add2 | .sub2 | .mul2 | .div2 | .and2
  | .ora2 | .eor2 | .sft2 | .incr | .popr | .nipr | .swpr | .rotr | .dupr | .ovrr
  | .equr | .neqr | .gthr | .lthr | .jmpr | .jcnr | .jsrr | .sthr | .ldzr | .stzr
  | .ldrr | .strr | .ldar | .star | .deir | .deor | .addr | .subr | .mulr | .divr
  | .andr | .orar | .eorr | .sftr | .inc2r | .pop2r | .nip2r | .swp2r | .rot2r | .dup2r
  | .ovr2r | .equ2r | .neq2r | .gth2r | .lth2r | .jmp2r | .jcn2r | .jsr2r | .sth2r | .ldz2r
  | .stz2r | .ldr2r | .str2r | .lda2r | .sta2r | .dei2r | .deo2r | .add2r | .sub2r | .mul2r
  | .div2r | .and2r | .ora2r | .eor2r | .sft2r | .inck | .popk | .nipk | .swpk | .rotk
  | .dupk | .ovrk | .equk | .neqk | .gthk | .lthk | .jmpk | .jcnk | .jsrk | .sthk
  | .ldzk | .stzk | .ldrk | .strk | .ldak | .stak | .deik | .deok | .addk | .subk
  | .mulk | .divk | .andk | .orak | .eork | .sftk | .inc2k | .pop2k | .nip2k | .swp2k
  | .rot2k | .dup2k | .ovr2k | .equ2k | .neq2k | .gth2k | .lth2k | .jmp2k | .jcn2k | .jsr2k
  | .sth2k | .ldz2k | .stz2k | .ldr2k | .str2k | .lda2k | .sta2k | .dei2k | .deo2k | .add2k
  | .sub2k | .mul2k | .div2k | .and2k | .ora2k | .eor2k | .sft2k | .inckr | .popkr | .nipkr
  | .swpkr | .rotkr | .dupkr | .ovrkr | .equkr | .neqkr | .gthkr | .lthkr | .jmpkr | .jcnkr
  | .jsrkr | .sthkr | .ldzkr | .stzkr | .ldrkr | .strkr | .ldakr | .stakr | .deikr | .deokr
  | .addkr | .subkr | .mulkr | .divkr | .andkr | .orakr | .eorkr | .sftkr | .inc2kr | .pop2kr
  | .nip2kr | .swp2kr | .rot2kr | .dup2kr | .ovr2kr | .equ2kr | .neq2kr | .gth2kr | .lth2kr | .jmp2kr
  | .jcn2kr | .jsr2kr | .sth2kr | .ldz2kr | .stz2kr | .ldr2kr | .str2kr | .lda2kr | .sta2kr | .dei2kr
  | .deo2kr | .add2kr | .sub2kr | .mul2kr | .div2kr | .and2kr | .ora2kr | .eor2kr | .sft2kr => []

/-- The bytes of an instruction: its opcode byte, then its immediate bytes (R70, R86). -/
def encode (i : Instr) : List Byte := opcode i :: immediateBytes i

/-- The length of an instruction in bytes (R70, R77). -/
def Instr.length (i : Instr) : Nat := lengthOfOpcode (opcode i)

/-- The `k`-th byte of a number whose bit 0 is the least significant bit of the first byte. -/
def byteOfWord (w k : Nat) : Byte := BitVec.ofNat 8 (w >>> (8 * k))

/-- The bytes at the front of the code that spec/opcode_table.json's word `w` of `nbits` bits stands for: byte `k` of the
instruction is bits `8k+7..8k`, and the bits above `nbits` are 0. Three bytes, the longest instruction's length (R70). -/
def tableWordBytes (nbits w : Nat) : List Byte :=
  let v := w % 2 ^ nbits
  [byteOfWord v 0, byteOfWord v 1, byteOfWord v 2]

/-- The instruction the decoder reads from a word of spec/opcode_table.json, its operand bytes beyond `nbits` zero. -/
def decodeTableWord (nbits w : Nat) : Option Instr :=
  match decode (tableWordBytes nbits w) with
  | .ok (i, _) => some i
  | .error _ => none

end Sys2Proof
end

