-- ==== Sys2Proof/Machine/Ops.lean ====
section
/-!
DEFINITION. The named operations over memory, stacks, the program counter, run frames and the device bridge. Every meaning and
the step use these; nothing else reads or writes a field of State.

There is no operation "take an exception": the core raises none (R460 of 60_exceptions.md). What the spec has in its place is
here, each once: the start of a run at a vector (`startRun`, R103, R464), the end of a run (`halt`, R104, R466), and the bridge
call with the host's turn (`bridge`, `hostMove`, `resume`, `enterStuck`, R330 to R335, R475).
-/

namespace Sys2Proof.Machine

/-! ## Memory -/

/-- What an unlisted byte of a byte array reads as: the model's value for the parameters `mem_init`, `stack_init_W` and
`stack_init_R`, which R41, D2 and D3 leave OPEN. DESIGN CHOICE zero, unsafe (log 2, log 3). -/
def Memory.unlisted : Byte := 0

/-- The byte at an address. -/
def Memory.read : Memory → Nat → Byte
  | [], _ => Memory.unlisted
  | (k, b) :: rest, a => if k = a then b else Memory.read rest a

/-- The array without an entry at `a`. -/
def Memory.erase (m : Memory) (a : Nat) : Memory := m.filter (fun c => c.1 != a)

/-- The array with the entry `(a, v)` at its place in the rising order, in place of any entry at `a`. -/
def Memory.insert : Memory → Nat → Byte → Memory
  | [], a, v => [(a, v)]
  | (k, b) :: rest, a, v =>
    if a < k then (a, v) :: (k, b) :: rest
    else if a = k then (a, v) :: rest
    else (k, b) :: Memory.insert rest a v

/-- Write one byte, keeping the canonical form: the value that an unlisted address reads as removes the entry. -/
def Memory.write (m : Memory) (a : Nat) (v : Byte) : Memory :=
  if v = Memory.unlisted then Memory.erase m a else Memory.insert m a v

/-- The addresses rise strictly, and each is above `low` where `low` is given. -/
def Memory.rising : Option Nat → Memory → Bool
  | _, [] => true
  | low, (k, _) :: rest =>
    (match low with | none => true | some l => decide (l < k)) && Memory.rising (some k) rest

/-- The canonical form of an array of `size` bytes: addresses strictly rising and below `size`, and no entry equal to what an
unlisted address reads as. -/
def Memory.wf (size : Nat) (m : Memory) : Bool :=
  Memory.rising none m && m.all (fun c => decide (c.1 < size) && decide (c.2 ≠ Memory.unlisted))

/-- `M[addr]` (R10, R21). Every address exists (R50, R59). -/
def State.readByte (s : State) (addr : Addr) : Byte := Memory.read s.mem addr.toNat

/-- `M[addr] <- v`. Every address may be written, the ROM area too (R58, R59). -/
def State.writeByte (s : State) (addr : Addr) (v : Byte) : State :=
  { s with mem := Memory.write s.mem addr.toNat v }

/-- `MemRead(addr, 1)` (R51). -/
def memRead1 (s : State) (addr : Addr) : Byte := s.readByte addr

/-- `MemRead(addr, 2)`: the high byte at `addr`, the low byte at `(addr + 1) mod 2^16` (R51, R53, R54). -/
def memRead2 (s : State) (addr : Addr) : Short := concatBytes (s.readByte addr) (s.readByte (addr + 1))

/-- `MemWrite(addr, 1, v)` (R52). -/
def memWrite1 (s : State) (addr : Addr) (v : Byte) : State := s.writeByte addr v

/-- `MemWrite(addr, 2, v)`: the high byte to `addr`, then the low byte to `(addr + 1) mod 2^16` (R52, R66). -/
def memWrite2 (s : State) (addr : Addr) (v : Short) : State :=
  (s.writeByte addr (hiByte v)).writeByte (addr + 1) (loByte v)

/-! ## Stacks -/

/-- `T.data[i]` (R10). -/
def Stack.slot (t : Stack) (i : Byte) : Byte := Memory.read t.data i.toNat

/-- `T.data[i] <- v` (R10). -/
def Stack.setSlot (t : Stack) (i v : Byte) : Stack := { t with data := Memory.write t.data i.toNat v }

/-- `T.idx <- i`; the width of a byte is the `mod 256` (R10, R24). -/
def Stack.setIdx (t : Stack) (i : Byte) : Stack := { t with idx := i }

/-- `push1(T, v)`: the index moves, then the byte is written (R27). -/
def Stack.push1 (t : Stack) (v : Byte) : Stack :=
  let t := t.setIdx (t.idx + 1)
  t.setSlot t.idx v

/-- `pop1(T)`: the byte at the index, then the index moves; the slot is not cleared (R28, R39). -/
def Stack.pop1 (t : Stack) : Byte × Stack := (t.slot t.idx, t.setIdx (t.idx - 1))

/-- `peek1(T, n)` (R29). -/
def Stack.peek1 (t : Stack) (n : Byte) : Byte := t.slot (t.idx - n)

/-- `push2(T, v)`: the high byte, then the low byte on top (R25, R30). -/
def Stack.push2 (t : Stack) (v : Short) : Stack := (t.push1 (hiByte v)).push1 (loByte v)

/-- `pop2(T)`: the low byte, then the high byte (R31). -/
def Stack.pop2 (t : Stack) : Short × Stack :=
  let (lo, t) := t.pop1
  let (hi, t) := t.pop1
  (concatBytes hi lo, t)

/-- `peek2(T, n)`: `n` is the offset of the short's low byte from the top (R32). -/
def Stack.peek2 (t : Stack) (n : Byte) : Short := concatBytes (t.peek1 (n + 1)) (t.peek1 n)

/-- The stack of that name (R20). -/
def State.stack (s : State) : StackId → Stack
  | .work => s.wst
  | .ret => s.rst

/-- Replace the stack of that name. -/
def State.setStack (s : State) (k : StackId) (t : Stack) : State :=
  match k with
  | .work => { s with wst := t }
  | .ret => { s with rst := t }

/-! ## Program counter and instruction fetch -/

/-- `pc <- target` (R10, R33). -/
def State.setPc (s : State) (target : Addr) : State := { s with pc := target }

/-- `pc <- (pc + n) mod 2^16` (R33, R90, R91). -/
def State.advancePc (s : State) (n : Nat) : State := s.setPc (s.pc + BitVec.ofNat 16 n)

/-- The instruction at `pc`: the opcode byte at `pc` and the two bytes after it, each address mod 2^16 (R55, R90, R91), read
from memory as it stands (R64). Only the bytes of the instruction's own length matter to what is decoded. -/
def fetchInstr (s : State) : Instr :=
  decodeBytes (s.readByte s.pc) (s.readByte (s.pc + 1)) (s.readByte (s.pc + 2))

/-! ## Runs: entry and exit -/

/-- `run(vm, pc0)`: a new run frame begins at `pc0` (R103). Memory, both stacks and both indices are taken as they stand, and
suspended runs keep their frames (R107, R464). -/
def startRun (pc0 : Addr) (s : State) : State := { s with pc := pc0, phase := .running }

/-- `halt(p)`: the innermost run ends and `p` goes back to its caller, the host, which has the machine next (R104, R466). The
indices in State are the VM's own, so writing them back changes nothing (R38, log 8). -/
def halt (p : Addr) (s : State) : State := { s with result := some p, phase := .hosting }

/-- The active runs, innermost last (R40): the suspended runs, each with the transaction it waits on, then the run that
executes, if one does. -/
def State.runFrames (s : State) : List (Addr × Option Transaction) :=
  s.suspended.reverse.map (fun f => (f.pc, some f.transaction)) ++
    (match s.phase with | .running => [(s.pc, none)] | .created => [] | .hosting => [] | .stuck _ => [])

/-! ## The device bridge -/

/-- One write of the host to the VM state (R334). -/
def applyEdit (s : State) : HostEdit → State
  | .mem addr v => s.writeByte addr v
  | .data k slot v => s.setStack k ((s.stack k).setSlot slot v)
  | .index k v => s.setStack k ((s.stack k).setIdx v)

/-- The host's writes of one turn, in order. -/
def applyEdits (s : State) (edits : List HostEdit) : State := edits.foldl applyEdit s

/-- The host's next turn, and the state with that turn used up: the head of `script`, or when it is empty the free turn
`Config.hostTurn` at `clock` (R7, D8; log 5). -/
def takeTurn (s : State) : HostTurn × State :=
  match s.script with
  | turn :: rest => (turn, { s with script := rest })
  | [] => (Config.hostTurn s.clock, { s with clock := s.clock + 1 })

/-- What the core sends to the host in a transaction (R330, R331). -/
def Transaction.call : Transaction → HostCall
  | .dei port wide _ => .dei port wide
  | .deo port value wide => .deo port value wide

/-- What is left of the instruction when the callback returns: `DEI*` pushes the value at the index as the host left it, all
16 bits or its low 8 (R330, R332, R340, D12); `DEO*` ends its run when the signal is honoured and false, with `pc` the address
after the opcode byte, and otherwise does nothing more (R333). -/
def finishTransaction (t : Transaction) (value : Short) (continueRun : Bool) (s : State) : State :=
  match t with
  | .dei _ wide target =>
    s.setStack target (if wide then (s.stack target).push2 value else (s.stack target).push1 (loByte value))
  | .deo _ _ _ => if s.deoHaltHonoured && !continueRun then halt s.pc s else s

/-- The callback returns to the innermost suspended run: its `pc` is the one it had (R332, R335), its instruction is finished,
and it goes on. With no suspended run there is no bridge call to return from and nothing happens (log 11). -/
def resume (value : Short) (continueRun : Bool) (s : State) : State :=
  match s.suspended with
  | [] => s
  | f :: rest =>
    finishTransaction f.transaction value continueRun
      { s with suspended := rest, pc := f.pc, phase := .running }

/-- A bridge call that never comes back: the machine is stuck in the transaction of the innermost suspended run (R475 cases 2
and 3). With no suspended run there is no bridge call, and the core is left idle (log 11). -/
def enterStuck (why : Stuck) (s : State) : State :=
  { s with phase := if s.suspended.isEmpty then s.phase else .stuck why }

/-- One turn of the host, taken whenever the host has the machine: idle, or inside a bridge call (R334). It makes its writes,
and then calls `run`, or finishes, or the call never comes back. -/
def hostMove (s : State) : State :=
  let (turn, s) := takeTurn s
  let s := applyEdits s turn.edits
  match turn.act with
  | .run vector => startRun vector s
  | .finish value continueRun => resume value continueRun s
  | .stuck why => enterStuck why s

/-- The transaction as it stands when the host gets control: the call is made, the run that made it is suspended with its `pc`,
and both indices are as the operand removal left them (R332 publish, R38, R40; log 8). -/
def publish (t : Transaction) (s : State) : State :=
  { s with suspended := { pc := s.pc, transaction := t } :: s.suspended
           phase := .hosting
           calls := s.calls ++ [t.call] }

/-- A bridge transaction: publish, then the host's turn (R330, R331). A turn that finishes completes the instruction within its
own step (R499); a turn that calls `run` leaves the instruction suspended until the callback returns (R107, R335; log 7); a turn
that never comes back leaves it suspended for good (R475). -/
def bridge (t : Transaction) (s : State) : State := hostMove (publish t s)

end Sys2Proof.Machine
end

