-- ==== Sys2Proof/Machine/Operands.lean ====
section
/-!
DEFINITION. Operands and results of the 248 opcodes with mode fields (R93 to R100 of 40_execution.md, R76 of 30_encoding.md):
the active and the other stack, operand taking with the cursor of R96, result pushing, effective addresses and jump targets.
A value of `N` bytes is a `BitVec (modeBits m)`, so that its arithmetic wraps mod `2^(8N)` by its width (R95).
-/

namespace Sys2Proof.Machine

/-- The operand width in bits, `8N`: 16 when the short flag is set, 8 otherwise (R93). -/
def modeBits : Mode → Nat
  | ⟨true, _, _⟩ => 16
  | ⟨false, _, _⟩ => 8

/-- The active stack `S`: `R` when the return flag is set, `W` otherwise (R26, R94). -/
def activeStack (m : Mode) : StackId := if m.ret then .ret else .work

/-- The other stack `O` (R94). -/
def otherStack (m : Mode) : StackId := if m.ret then .work else .ret

/-! ## Taking operands (R96) -/

/-- A handler while it takes its operands: the cursor and the state. -/
structure Taking where
  /-- `cur`, the slot of the next byte to take. -/
  cur : Byte
  /-- The state; its active stack's index follows the cursor unless the keep flag is set. -/
  st : State
deriving DecidableEq, Repr

/-- `cur <- S.idx` (R96). -/
def beginTake (m : Mode) (s : State) : Taking := { cur := (s.stack (activeStack m)).idx, st := s }

/-- `take1()`: the byte at the cursor; the cursor moves down, and without the keep flag the index follows it (R96). -/
def take1 (m : Mode) (t : Taking) : Byte × Taking :=
  let S := t.st.stack (activeStack m)
  let cur := t.cur - 1
  (S.slot t.cur, { cur := cur, st := if m.keep then t.st else t.st.setStack (activeStack m) (S.setIdx cur) })

/-- `take2()`: the low byte, then the high byte (R96). -/
def take2 (m : Mode) (t : Taking) : Short × Taking :=
  let (lo, t) := take1 m t
  let (hi, t) := take1 m t
  (concatBytes hi lo, t)

/-- `takeN()` (R96). -/
def takeN : (m : Mode) → Taking → BitVec (modeBits m) × Taking
  | ⟨true, r, k⟩, t => take2 ⟨true, r, k⟩ t
  | ⟨false, r, k⟩, t => take1 ⟨false, r, k⟩ t

/-! ## Pushing results (R98, R100) -/

/-- `push1(T, v)` on a stack of the state. -/
def pushByte (k : StackId) (v : Byte) (s : State) : State := s.setStack k ((s.stack k).push1 v)

/-- `push2(T, v)` on a stack of the state. -/
def pushShort (k : StackId) (v : Short) (s : State) : State := s.setStack k ((s.stack k).push2 v)

/-- `pushN(T, v)` (R11). -/
def pushN : (m : Mode) → StackId → BitVec (modeBits m) → State → State
  | ⟨true, _, _⟩, k, v, s => pushShort k v s
  | ⟨false, _, _⟩, k, v, s => pushByte k v s

/-! ## Memory operands -/

/-- `MemRead(addr, N)` (R51). -/
def memReadN : (m : Mode) → State → Addr → BitVec (modeBits m)
  | ⟨true, _, _⟩, s, addr => memRead2 s addr
  | ⟨false, _, _⟩, s, addr => memRead1 s addr

/-- `MemWrite(addr, N, v)` (R52). -/
def memWriteN : (m : Mode) → State → Addr → BitVec (modeBits m) → State
  | ⟨true, _, _⟩, s, addr, v => memWrite2 s addr v
  | ⟨false, _, _⟩, s, addr, v => memWrite1 s addr v

/-- The zero-page effective address `zext_16(addr)` (R270, R279). -/
def zeroPageAddr (addr : Byte) : Addr := addr.setWidth 16

/-- The relative effective address `(pc + sext_8(off)) mod 2^16`, for `LDR*`, `STR*` and the byte forms of `JMP`, `JCN` and
`JSR` (R76, R240, R288); `pc` is the address after the opcode byte (R102). -/
def relativeAddr (pc : Addr) (off : Byte) : Addr := pc + off.signExtend 16

/-- The target of `JMP*`, `JCN*` and `JSR*`: an absolute short, or a signed byte offset from `pc` (R240, C1). -/
def jumpTarget : (m : Mode) → Addr → BitVec (modeBits m) → Addr
  | ⟨true, _, _⟩, _, t => t
  | ⟨false, _, _⟩, pc, t => relativeAddr pc t

/-- The value a `DEO*` hands to the host: 16 bits in short mode, a zero-extended byte otherwise (R331, D12). -/
def deviceValue : (m : Mode) → BitVec (modeBits m) → Short
  | ⟨true, _, _⟩, v => v
  | ⟨false, _, _⟩, v => v.setWidth 16

end Sys2Proof.Machine
end

