-- ==== Sys2Proof/Machine/Arith.lean ====
section
/-!
DEFINITION. Arithmetic, logic and shift: INC, ADD, SUB, MUL, DIV, AND, ORA, EOR, SFT (47_arith.md), each with its eight opcodes. All
operands are unsigned; results wrap mod `2^(8N)` by the width of the value; no flag is written (R34).
-/

namespace Sys2Proof.Machine

/-- `INC` (R370): `a → a+1`. -/
def opInc (m : Mode) (s : State) : State :=
  let (a, t) := takeN m (beginTake m s)
  pushN m (activeStack m) (a + 1) t.st

/-- `ADD` (R379): `a b → a+b`. -/
def opAdd (m : Mode) (s : State) : State :=
  let (b, t) := takeN m (beginTake m s)
  let (a, t) := takeN m t
  pushN m (activeStack m) (a + b) t.st

/-- `SUB` (R388): `a b → a-b`. -/
def opSub (m : Mode) (s : State) : State :=
  let (b, t) := takeN m (beginTake m s)
  let (a, t) := takeN m t
  pushN m (activeStack m) (a - b) t.st

/-- `MUL` (R397): `a b → a*b`, the low `8N` bits of the product. -/
def opMul (m : Mode) (s : State) : State :=
  let (b, t) := takeN m (beginTake m s)
  let (a, t) := takeN m t
  pushN m (activeStack m) (a * b) t.st

/-- The quotient `DIV*` pushes: unsigned, truncating, and 0 when the divisor is 0 (R406). -/
def quotient (m : Mode) (a b : BitVec (modeBits m)) : BitVec (modeBits m) := if b = 0 then 0 else a.udiv b

/-- `DIV` (R406): `a b → a/b`, unsigned and truncating; division by zero gives 0 and does not fault. -/
def opDiv (m : Mode) (s : State) : State :=
  let (b, t) := takeN m (beginTake m s)
  let (a, t) := takeN m t
  pushN m (activeStack m) (quotient m a b) t.st

/-- `AND` (R415): `a b → a&b`. -/
def opAnd (m : Mode) (s : State) : State :=
  let (b, t) := takeN m (beginTake m s)
  let (a, t) := takeN m t
  pushN m (activeStack m) (a &&& b) t.st

/-- `ORA` (R424): `a b → a|b`. -/
def opOra (m : Mode) (s : State) : State :=
  let (b, t) := takeN m (beginTake m s)
  let (a, t) := takeN m t
  pushN m (activeStack m) (a ||| b) t.st

/-- `EOR` (R433): `a b → a^b`. -/
def opEor (m : Mode) (s : State) : State :=
  let (b, t) := takeN m (beginTake m s)
  let (a, t) := takeN m t
  pushN m (activeStack m) (a ^^^ b) t.st

/-- The value `SFT*` pushes: `a` shifted right by the low nibble of `sh`, then left by its high nibble; both shifts are logical
and the bits shifted out are lost (R442). -/
def shifted (m : Mode) (a : BitVec (modeBits m)) (sh : Byte) : BitVec (modeBits m) :=
  (a >>> (sh.extractLsb' 0 4).toNat) <<< (sh.extractLsb' 4 4).toNat

/-- `SFT` (R442): `a sh → a'`; the shift is a byte in both modes. -/
def opSft (m : Mode) (s : State) : State :=
  let (sh, t) := take1 m (beginTake m s)
  let (a, t) := takeN m t
  pushN m (activeStack m) (shifted m a sh) t.st

/-! ### The eight opcodes of `INC` -/

/-- `INC` (`0x01`): base `INC` with s=0, r=0, k=0 (R371). -/
def execInc (s : State) : Host.Outcome State Fault Refusal :=
  .next (opInc { short := false, ret := false, keep := false } s)

/-- `INC2` (`0x21`): base `INC` with s=1, r=0, k=0 (R372). -/
def execInc2 (s : State) : Host.Outcome State Fault Refusal :=
  .next (opInc { short := true, ret := false, keep := false } s)

/-- `INCr` (`0x41`): base `INC` with s=0, r=1, k=0 (R373). -/
def execIncr (s : State) : Host.Outcome State Fault Refusal :=
  .next (opInc { short := false, ret := true, keep := false } s)

/-- `INC2r` (`0x61`): base `INC` with s=1, r=1, k=0 (R374). -/
def execInc2r (s : State) : Host.Outcome State Fault Refusal :=
  .next (opInc { short := true, ret := true, keep := false } s)

/-- `INCk` (`0x81`): base `INC` with s=0, r=0, k=1 (R375). -/
def execInck (s : State) : Host.Outcome State Fault Refusal :=
  .next (opInc { short := false, ret := false, keep := true } s)

/-- `INC2k` (`0xA1`): base `INC` with s=1, r=0, k=1 (R376). -/
def execInc2k (s : State) : Host.Outcome State Fault Refusal :=
  .next (opInc { short := true, ret := false, keep := true } s)

/-- `INCkr` (`0xC1`): base `INC` with s=0, r=1, k=1 (R377). -/
def execInckr (s : State) : Host.Outcome State Fault Refusal :=
  .next (opInc { short := false, ret := true, keep := true } s)

/-- `INC2kr` (`0xE1`): base `INC` with s=1, r=1, k=1 (R378). -/
def execInc2kr (s : State) : Host.Outcome State Fault Refusal :=
  .next (opInc { short := true, ret := true, keep := true } s)

/-! ### The eight opcodes of `ADD` -/

/-- `ADD` (`0x18`): base `ADD` with s=0, r=0, k=0 (R380). -/
def execAdd (s : State) : Host.Outcome State Fault Refusal :=
  .next (opAdd { short := false, ret := false, keep := false } s)

/-- `ADD2` (`0x38`): base `ADD` with s=1, r=0, k=0 (R381). -/
def execAdd2 (s : State) : Host.Outcome State Fault Refusal :=
  .next (opAdd { short := true, ret := false, keep := false } s)

/-- `ADDr` (`0x58`): base `ADD` with s=0, r=1, k=0 (R382). -/
def execAddr (s : State) : Host.Outcome State Fault Refusal :=
  .next (opAdd { short := false, ret := true, keep := false } s)

/-- `ADD2r` (`0x78`): base `ADD` with s=1, r=1, k=0 (R383). -/
def execAdd2r (s : State) : Host.Outcome State Fault Refusal :=
  .next (opAdd { short := true, ret := true, keep := false } s)

/-- `ADDk` (`0x98`): base `ADD` with s=0, r=0, k=1 (R384). -/
def execAddk (s : State) : Host.Outcome State Fault Refusal :=
  .next (opAdd { short := false, ret := false, keep := true } s)

/-- `ADD2k` (`0xB8`): base `ADD` with s=1, r=0, k=1 (R385). -/
def execAdd2k (s : State) : Host.Outcome State Fault Refusal :=
  .next (opAdd { short := true, ret := false, keep := true } s)

/-- `ADDkr` (`0xD8`): base `ADD` with s=0, r=1, k=1 (R386). -/
def execAddkr (s : State) : Host.Outcome State Fault Refusal :=
  .next (opAdd { short := false, ret := true, keep := true } s)

/-- `ADD2kr` (`0xF8`): base `ADD` with s=1, r=1, k=1 (R387). -/
def execAdd2kr (s : State) : Host.Outcome State Fault Refusal :=
  .next (opAdd { short := true, ret := true, keep := true } s)

/-! ### The eight opcodes of `SUB` -/

/-- `SUB` (`0x19`): base `SUB` with s=0, r=0, k=0 (R389). -/
def execSub (s : State) : Host.Outcome State Fault Refusal :=
  .next (opSub { short := false, ret := false, keep := false } s)

/-- `SUB2` (`0x39`): base `SUB` with s=1, r=0, k=0 (R390). -/
def execSub2 (s : State) : Host.Outcome State Fault Refusal :=
  .next (opSub { short := true, ret := false, keep := false } s)

/-- `SUBr` (`0x59`): base `SUB` with s=0, r=1, k=0 (R391). -/
def execSubr (s : State) : Host.Outcome State Fault Refusal :=
  .next (opSub { short := false, ret := true, keep := false } s)

/-- `SUB2r` (`0x79`): base `SUB` with s=1, r=1, k=0 (R392). -/
def execSub2r (s : State) : Host.Outcome State Fault Refusal :=
  .next (opSub { short := true, ret := true, keep := false } s)

/-- `SUBk` (`0x99`): base `SUB` with s=0, r=0, k=1 (R393). -/
def execSubk (s : State) : Host.Outcome State Fault Refusal :=
  .next (opSub { short := false, ret := false, keep := true } s)

/-- `SUB2k` (`0xB9`): base `SUB` with s=1, r=0, k=1 (R394). -/
def execSub2k (s : State) : Host.Outcome State Fault Refusal :=
  .next (opSub { short := true, ret := false, keep := true } s)

/-- `SUBkr` (`0xD9`): base `SUB` with s=0, r=1, k=1 (R395). -/
def execSubkr (s : State) : Host.Outcome State Fault Refusal :=
  .next (opSub { short := false, ret := true, keep := true } s)

/-- `SUB2kr` (`0xF9`): base `SUB` with s=1, r=1, k=1 (R396). -/
def execSub2kr (s : State) : Host.Outcome State Fault Refusal :=
  .next (opSub { short := true, ret := true, keep := true } s)

/-! ### The eight opcodes of `MUL` -/

/-- `MUL` (`0x1A`): base `MUL` with s=0, r=0, k=0 (R398). -/
def execMul (s : State) : Host.Outcome State Fault Refusal :=
  .next (opMul { short := false, ret := false, keep := false } s)

/-- `MUL2` (`0x3A`): base `MUL` with s=1, r=0, k=0 (R399). -/
def execMul2 (s : State) : Host.Outcome State Fault Refusal :=
  .next (opMul { short := true, ret := false, keep := false } s)

/-- `MULr` (`0x5A`): base `MUL` with s=0, r=1, k=0 (R400). -/
def execMulr (s : State) : Host.Outcome State Fault Refusal :=
  .next (opMul { short := false, ret := true, keep := false } s)

/-- `MUL2r` (`0x7A`): base `MUL` with s=1, r=1, k=0 (R401). -/
def execMul2r (s : State) : Host.Outcome State Fault Refusal :=
  .next (opMul { short := true, ret := true, keep := false } s)

/-- `MULk` (`0x9A`): base `MUL` with s=0, r=0, k=1 (R402). -/
def execMulk (s : State) : Host.Outcome State Fault Refusal :=
  .next (opMul { short := false, ret := false, keep := true } s)

/-- `MUL2k` (`0xBA`): base `MUL` with s=1, r=0, k=1 (R403). -/
def execMul2k (s : State) : Host.Outcome State Fault Refusal :=
  .next (opMul { short := true, ret := false, keep := true } s)

/-- `MULkr` (`0xDA`): base `MUL` with s=0, r=1, k=1 (R404). -/
def execMulkr (s : State) : Host.Outcome State Fault Refusal :=
  .next (opMul { short := false, ret := true, keep := true } s)

/-- `MUL2kr` (`0xFA`): base `MUL` with s=1, r=1, k=1 (R405). -/
def execMul2kr (s : State) : Host.Outcome State Fault Refusal :=
  .next (opMul { short := true, ret := true, keep := true } s)

/-! ### The eight opcodes of `DIV` -/

/-- `DIV` (`0x1B`): base `DIV` with s=0, r=0, k=0 (R407). -/
def execDiv (s : State) : Host.Outcome State Fault Refusal :=
  .next (opDiv { short := false, ret := false, keep := false } s)

/-- `DIV2` (`0x3B`): base `DIV` with s=1, r=0, k=0 (R408). -/
def execDiv2 (s : State) : Host.Outcome State Fault Refusal :=
  .next (opDiv { short := true, ret := false, keep := false } s)

/-- `DIVr` (`0x5B`): base `DIV` with s=0, r=1, k=0 (R409). -/
def execDivr (s : State) : Host.Outcome State Fault Refusal :=
  .next (opDiv { short := false, ret := true, keep := false } s)

/-- `DIV2r` (`0x7B`): base `DIV` with s=1, r=1, k=0 (R410). -/
def execDiv2r (s : State) : Host.Outcome State Fault Refusal :=
  .next (opDiv { short := true, ret := true, keep := false } s)

/-- `DIVk` (`0x9B`): base `DIV` with s=0, r=0, k=1 (R411). -/
def execDivk (s : State) : Host.Outcome State Fault Refusal :=
  .next (opDiv { short := false, ret := false, keep := true } s)

/-- `DIV2k` (`0xBB`): base `DIV` with s=1, r=0, k=1 (R412). -/
def execDiv2k (s : State) : Host.Outcome State Fault Refusal :=
  .next (opDiv { short := true, ret := false, keep := true } s)

/-- `DIVkr` (`0xDB`): base `DIV` with s=0, r=1, k=1 (R413). -/
def execDivkr (s : State) : Host.Outcome State Fault Refusal :=
  .next (opDiv { short := false, ret := true, keep := true } s)

/-- `DIV2kr` (`0xFB`): base `DIV` with s=1, r=1, k=1 (R414). -/
def execDiv2kr (s : State) : Host.Outcome State Fault Refusal :=
  .next (opDiv { short := true, ret := true, keep := true } s)

/-! ### The eight opcodes of `AND` -/

/-- `AND` (`0x1C`): base `AND` with s=0, r=0, k=0 (R416). -/
def execAnd (s : State) : Host.Outcome State Fault Refusal :=
  .next (opAnd { short := false, ret := false, keep := false } s)

/-- `AND2` (`0x3C`): base `AND` with s=1, r=0, k=0 (R417). -/
def execAnd2 (s : State) : Host.Outcome State Fault Refusal :=
  .next (opAnd { short := true, ret := false, keep := false } s)

/-- `ANDr` (`0x5C`): base `AND` with s=0, r=1, k=0 (R418). -/
def execAndr (s : State) : Host.Outcome State Fault Refusal :=
  .next (opAnd { short := false, ret := true, keep := false } s)

/-- `AND2r` (`0x7C`): base `AND` with s=1, r=1, k=0 (R419). -/
def execAnd2r (s : State) : Host.Outcome State Fault Refusal :=
  .next (opAnd { short := true, ret := true, keep := false } s)

/-- `ANDk` (`0x9C`): base `AND` with s=0, r=0, k=1 (R420). -/
def execAndk (s : State) : Host.Outcome State Fault Refusal :=
  .next (opAnd { short := false, ret := false, keep := true } s)

/-- `AND2k` (`0xBC`): base `AND` with s=1, r=0, k=1 (R421). -/
def execAnd2k (s : State) : Host.Outcome State Fault Refusal :=
  .next (opAnd { short := true, ret := false, keep := true } s)

/-- `ANDkr` (`0xDC`): base `AND` with s=0, r=1, k=1 (R422). -/
def execAndkr (s : State) : Host.Outcome State Fault Refusal :=
  .next (opAnd { short := false, ret := true, keep := true } s)

/-- `AND2kr` (`0xFC`): base `AND` with s=1, r=1, k=1 (R423). -/
def execAnd2kr (s : State) : Host.Outcome State Fault Refusal :=
  .next (opAnd { short := true, ret := true, keep := true } s)

/-! ### The eight opcodes of `ORA` -/

/-- `ORA` (`0x1D`): base `ORA` with s=0, r=0, k=0 (R425). -/
def execOra (s : State) : Host.Outcome State Fault Refusal :=
  .next (opOra { short := false, ret := false, keep := false } s)

/-- `ORA2` (`0x3D`): base `ORA` with s=1, r=0, k=0 (R426). -/
def execOra2 (s : State) : Host.Outcome State Fault Refusal :=
  .next (opOra { short := true, ret := false, keep := false } s)

/-- `ORAr` (`0x5D`): base `ORA` with s=0, r=1, k=0 (R427). -/
def execOrar (s : State) : Host.Outcome State Fault Refusal :=
  .next (opOra { short := false, ret := true, keep := false } s)

/-- `ORA2r` (`0x7D`): base `ORA` with s=1, r=1, k=0 (R428). -/
def execOra2r (s : State) : Host.Outcome State Fault Refusal :=
  .next (opOra { short := true, ret := true, keep := false } s)

/-- `ORAk` (`0x9D`): base `ORA` with s=0, r=0, k=1 (R429). -/
def execOrak (s : State) : Host.Outcome State Fault Refusal :=
  .next (opOra { short := false, ret := false, keep := true } s)

/-- `ORA2k` (`0xBD`): base `ORA` with s=1, r=0, k=1 (R430). -/
def execOra2k (s : State) : Host.Outcome State Fault Refusal :=
  .next (opOra { short := true, ret := false, keep := true } s)

/-- `ORAkr` (`0xDD`): base `ORA` with s=0, r=1, k=1 (R431). -/
def execOrakr (s : State) : Host.Outcome State Fault Refusal :=
  .next (opOra { short := false, ret := true, keep := true } s)

/-- `ORA2kr` (`0xFD`): base `ORA` with s=1, r=1, k=1 (R432). -/
def execOra2kr (s : State) : Host.Outcome State Fault Refusal :=
  .next (opOra { short := true, ret := true, keep := true } s)

/-! ### The eight opcodes of `EOR` -/

/-- `EOR` (`0x1E`): base `EOR` with s=0, r=0, k=0 (R434). -/
def execEor (s : State) : Host.Outcome State Fault Refusal :=
  .next (opEor { short := false, ret := false, keep := false } s)

/-- `EOR2` (`0x3E`): base `EOR` with s=1, r=0, k=0 (R435). -/
def execEor2 (s : State) : Host.Outcome State Fault Refusal :=
  .next (opEor { short := true, ret := false, keep := false } s)

/-- `EORr` (`0x5E`): base `EOR` with s=0, r=1, k=0 (R436). -/
def execEorr (s : State) : Host.Outcome State Fault Refusal :=
  .next (opEor { short := false, ret := true, keep := false } s)

/-- `EOR2r` (`0x7E`): base `EOR` with s=1, r=1, k=0 (R437). -/
def execEor2r (s : State) : Host.Outcome State Fault Refusal :=
  .next (opEor { short := true, ret := true, keep := false } s)

/-- `EORk` (`0x9E`): base `EOR` with s=0, r=0, k=1 (R438). -/
def execEork (s : State) : Host.Outcome State Fault Refusal :=
  .next (opEor { short := false, ret := false, keep := true } s)

/-- `EOR2k` (`0xBE`): base `EOR` with s=1, r=0, k=1 (R439). -/
def execEor2k (s : State) : Host.Outcome State Fault Refusal :=
  .next (opEor { short := true, ret := false, keep := true } s)

/-- `EORkr` (`0xDE`): base `EOR` with s=0, r=1, k=1 (R440). -/
def execEorkr (s : State) : Host.Outcome State Fault Refusal :=
  .next (opEor { short := false, ret := true, keep := true } s)

/-- `EOR2kr` (`0xFE`): base `EOR` with s=1, r=1, k=1 (R441). -/
def execEor2kr (s : State) : Host.Outcome State Fault Refusal :=
  .next (opEor { short := true, ret := true, keep := true } s)

/-! ### The eight opcodes of `SFT` -/

/-- `SFT` (`0x1F`): base `SFT` with s=0, r=0, k=0 (R443). -/
def execSft (s : State) : Host.Outcome State Fault Refusal :=
  .next (opSft { short := false, ret := false, keep := false } s)

/-- `SFT2` (`0x3F`): base `SFT` with s=1, r=0, k=0 (R444). -/
def execSft2 (s : State) : Host.Outcome State Fault Refusal :=
  .next (opSft { short := true, ret := false, keep := false } s)

/-- `SFTr` (`0x5F`): base `SFT` with s=0, r=1, k=0 (R445). -/
def execSftr (s : State) : Host.Outcome State Fault Refusal :=
  .next (opSft { short := false, ret := true, keep := false } s)

/-- `SFT2r` (`0x7F`): base `SFT` with s=1, r=1, k=0 (R446). -/
def execSft2r (s : State) : Host.Outcome State Fault Refusal :=
  .next (opSft { short := true, ret := true, keep := false } s)

/-- `SFTk` (`0x9F`): base `SFT` with s=0, r=0, k=1 (R447). -/
def execSftk (s : State) : Host.Outcome State Fault Refusal :=
  .next (opSft { short := false, ret := false, keep := true } s)

/-- `SFT2k` (`0xBF`): base `SFT` with s=1, r=0, k=1 (R448). -/
def execSft2k (s : State) : Host.Outcome State Fault Refusal :=
  .next (opSft { short := true, ret := false, keep := true } s)

/-- `SFTkr` (`0xDF`): base `SFT` with s=0, r=1, k=1 (R449). -/
def execSftkr (s : State) : Host.Outcome State Fault Refusal :=
  .next (opSft { short := false, ret := true, keep := true } s)

/-- `SFT2kr` (`0xFF`): base `SFT` with s=1, r=1, k=1 (R450). -/
def execSft2kr (s : State) : Host.Outcome State Fault Refusal :=
  .next (opSft { short := true, ret := true, keep := true } s)

end Sys2Proof.Machine
end

