-- ==== Sys2Proof/Machine/Compare.lean ====
section
/-!
DEFINITION. Comparisons: EQU, NEQ, GTH, LTH (43_compare.md), unsigned, each with its eight opcodes. `b` is the top and `a` lies
beneath it (D22).
-/

namespace Sys2Proof.Machine

/-- `EQU` (R200): `a b → flag`, `a == b`; the result is one byte in both modes. -/
def opEqu (m : Mode) (s : State) : State :=
  let (b, t) := takeN m (beginTake m s)
  let (a, t) := takeN m t
  pushByte (activeStack m) (flagByte (a == b)) t.st

/-- `NEQ` (R209): `a b → flag`, `a != b`; the result is one byte in both modes. -/
def opNeq (m : Mode) (s : State) : State :=
  let (b, t) := takeN m (beginTake m s)
  let (a, t) := takeN m t
  pushByte (activeStack m) (flagByte (a != b)) t.st

/-- `GTH` (R218): `a b → flag`, `a > b` unsigned; the result is one byte in both modes. -/
def opGth (m : Mode) (s : State) : State :=
  let (b, t) := takeN m (beginTake m s)
  let (a, t) := takeN m t
  pushByte (activeStack m) (flagByte (b.ult a)) t.st

/-- `LTH` (R227): `a b → flag`, `a < b` unsigned; the result is one byte in both modes. -/
def opLth (m : Mode) (s : State) : State :=
  let (b, t) := takeN m (beginTake m s)
  let (a, t) := takeN m t
  pushByte (activeStack m) (flagByte (a.ult b)) t.st

/-! ### The eight opcodes of `EQU` -/

/-- `EQU` (`0x08`): base `EQU` with s=0, r=0, k=0 (R201). -/
def execEqu (s : State) : Host.Outcome State Fault Refusal :=
  .next (opEqu { short := false, ret := false, keep := false } s)

/-- `EQU2` (`0x28`): base `EQU` with s=1, r=0, k=0 (R202). -/
def execEqu2 (s : State) : Host.Outcome State Fault Refusal :=
  .next (opEqu { short := true, ret := false, keep := false } s)

/-- `EQUr` (`0x48`): base `EQU` with s=0, r=1, k=0 (R203). -/
def execEqur (s : State) : Host.Outcome State Fault Refusal :=
  .next (opEqu { short := false, ret := true, keep := false } s)

/-- `EQU2r` (`0x68`): base `EQU` with s=1, r=1, k=0 (R204). -/
def execEqu2r (s : State) : Host.Outcome State Fault Refusal :=
  .next (opEqu { short := true, ret := true, keep := false } s)

/-- `EQUk` (`0x88`): base `EQU` with s=0, r=0, k=1 (R205). -/
def execEquk (s : State) : Host.Outcome State Fault Refusal :=
  .next (opEqu { short := false, ret := false, keep := true } s)

/-- `EQU2k` (`0xA8`): base `EQU` with s=1, r=0, k=1 (R206). -/
def execEqu2k (s : State) : Host.Outcome State Fault Refusal :=
  .next (opEqu { short := true, ret := false, keep := true } s)

/-- `EQUkr` (`0xC8`): base `EQU` with s=0, r=1, k=1 (R207). -/
def execEqukr (s : State) : Host.Outcome State Fault Refusal :=
  .next (opEqu { short := false, ret := true, keep := true } s)

/-- `EQU2kr` (`0xE8`): base `EQU` with s=1, r=1, k=1 (R208). -/
def execEqu2kr (s : State) : Host.Outcome State Fault Refusal :=
  .next (opEqu { short := true, ret := true, keep := true } s)

/-! ### The eight opcodes of `NEQ` -/

/-- `NEQ` (`0x09`): base `NEQ` with s=0, r=0, k=0 (R210). -/
def execNeq (s : State) : Host.Outcome State Fault Refusal :=
  .next (opNeq { short := false, ret := false, keep := false } s)

/-- `NEQ2` (`0x29`): base `NEQ` with s=1, r=0, k=0 (R211). -/
def execNeq2 (s : State) : Host.Outcome State Fault Refusal :=
  .next (opNeq { short := true, ret := false, keep := false } s)

/-- `NEQr` (`0x49`): base `NEQ` with s=0, r=1, k=0 (R212). -/
def execNeqr (s : State) : Host.Outcome State Fault Refusal :=
  .next (opNeq { short := false, ret := true, keep := false } s)

/-- `NEQ2r` (`0x69`): base `NEQ` with s=1, r=1, k=0 (R213). -/
def execNeq2r (s : State) : Host.Outcome State Fault Refusal :=
  .next (opNeq { short := true, ret := true, keep := false } s)

/-- `NEQk` (`0x89`): base `NEQ` with s=0, r=0, k=1 (R214). -/
def execNeqk (s : State) : Host.Outcome State Fault Refusal :=
  .next (opNeq { short := false, ret := false, keep := true } s)

/-- `NEQ2k` (`0xA9`): base `NEQ` with s=1, r=0, k=1 (R215). -/
def execNeq2k (s : State) : Host.Outcome State Fault Refusal :=
  .next (opNeq { short := true, ret := false, keep := true } s)

/-- `NEQkr` (`0xC9`): base `NEQ` with s=0, r=1, k=1 (R216). -/
def execNeqkr (s : State) : Host.Outcome State Fault Refusal :=
  .next (opNeq { short := false, ret := true, keep := true } s)

/-- `NEQ2kr` (`0xE9`): base `NEQ` with s=1, r=1, k=1 (R217). -/
def execNeq2kr (s : State) : Host.Outcome State Fault Refusal :=
  .next (opNeq { short := true, ret := true, keep := true } s)

/-! ### The eight opcodes of `GTH` -/

/-- `GTH` (`0x0A`): base `GTH` with s=0, r=0, k=0 (R219). -/
def execGth (s : State) : Host.Outcome State Fault Refusal :=
  .next (opGth { short := false, ret := false, keep := false } s)

/-- `GTH2` (`0x2A`): base `GTH` with s=1, r=0, k=0 (R220). -/
def execGth2 (s : State) : Host.Outcome State Fault Refusal :=
  .next (opGth { short := true, ret := false, keep := false } s)

/-- `GTHr` (`0x4A`): base `GTH` with s=0, r=1, k=0 (R221). -/
def execGthr (s : State) : Host.Outcome State Fault Refusal :=
  .next (opGth { short := false, ret := true, keep := false } s)

/-- `GTH2r` (`0x6A`): base `GTH` with s=1, r=1, k=0 (R222). -/
def execGth2r (s : State) : Host.Outcome State Fault Refusal :=
  .next (opGth { short := true, ret := true, keep := false } s)

/-- `GTHk` (`0x8A`): base `GTH` with s=0, r=0, k=1 (R223). -/
def execGthk (s : State) : Host.Outcome State Fault Refusal :=
  .next (opGth { short := false, ret := false, keep := true } s)

/-- `GTH2k` (`0xAA`): base `GTH` with s=1, r=0, k=1 (R224). -/
def execGth2k (s : State) : Host.Outcome State Fault Refusal :=
  .next (opGth { short := true, ret := false, keep := true } s)

/-- `GTHkr` (`0xCA`): base `GTH` with s=0, r=1, k=1 (R225). -/
def execGthkr (s : State) : Host.Outcome State Fault Refusal :=
  .next (opGth { short := false, ret := true, keep := true } s)

/-- `GTH2kr` (`0xEA`): base `GTH` with s=1, r=1, k=1 (R226). -/
def execGth2kr (s : State) : Host.Outcome State Fault Refusal :=
  .next (opGth { short := true, ret := true, keep := true } s)

/-! ### The eight opcodes of `LTH` -/

/-- `LTH` (`0x0B`): base `LTH` with s=0, r=0, k=0 (R228). -/
def execLth (s : State) : Host.Outcome State Fault Refusal :=
  .next (opLth { short := false, ret := false, keep := false } s)

/-- `LTH2` (`0x2B`): base `LTH` with s=1, r=0, k=0 (R229). -/
def execLth2 (s : State) : Host.Outcome State Fault Refusal :=
  .next (opLth { short := true, ret := false, keep := false } s)

/-- `LTHr` (`0x4B`): base `LTH` with s=0, r=1, k=0 (R230). -/
def execLthr (s : State) : Host.Outcome State Fault Refusal :=
  .next (opLth { short := false, ret := true, keep := false } s)

/-- `LTH2r` (`0x6B`): base `LTH` with s=1, r=1, k=0 (R231). -/
def execLth2r (s : State) : Host.Outcome State Fault Refusal :=
  .next (opLth { short := true, ret := true, keep := false } s)

/-- `LTHk` (`0x8B`): base `LTH` with s=0, r=0, k=1 (R232). -/
def execLthk (s : State) : Host.Outcome State Fault Refusal :=
  .next (opLth { short := false, ret := false, keep := true } s)

/-- `LTH2k` (`0xAB`): base `LTH` with s=1, r=0, k=1 (R233). -/
def execLth2k (s : State) : Host.Outcome State Fault Refusal :=
  .next (opLth { short := true, ret := false, keep := true } s)

/-- `LTHkr` (`0xCB`): base `LTH` with s=0, r=1, k=1 (R234). -/
def execLthkr (s : State) : Host.Outcome State Fault Refusal :=
  .next (opLth { short := false, ret := true, keep := true } s)

/-- `LTH2kr` (`0xEB`): base `LTH` with s=1, r=1, k=1 (R235). -/
def execLth2kr (s : State) : Host.Outcome State Fault Refusal :=
  .next (opLth { short := true, ret := true, keep := true } s)

end Sys2Proof.Machine
end

