-- ==== Sys2Proof/Machine/Control.lean ====
section
/-!
DEFINITION. Control transfer: JMP, JCN, JSR (44_control.md), each with its eight opcodes. A byte target is a signed offset from `pc`,
a short target is absolute (C1); `pc` is the address after the opcode byte (R102).
-/

namespace Sys2Proof.Machine

/-- `JMP` (R240): `t → `, and `pc` becomes the target. -/
def opJmp (m : Mode) (s : State) : State :=
  let (target, t) := takeN m (beginTake m s)
  t.st.setPc (jumpTarget m t.st.pc target)

/-- `JCN` (R249): `cond t → `; `cond` is a byte in both modes, and both operands are taken whether or not the jump is. -/
def opJcn (m : Mode) (s : State) : State :=
  let (target, t) := takeN m (beginTake m s)
  let (cond, t) := take1 m t
  if conditionHolds cond then t.st.setPc (jumpTarget m t.st.pc target) else t.st

/-- `JSR` (R258): `t → `; the return address, `pc`, goes to the other stack as a short (R100, D5), and `pc` becomes the target
computed from that same `pc`. -/
def opJsr (m : Mode) (s : State) : State :=
  let (target, t) := takeN m (beginTake m s)
  (pushShort (otherStack m) t.st.pc t.st).setPc (jumpTarget m t.st.pc target)

/-! ### The eight opcodes of `JMP` -/

/-- `JMP` (`0x0C`): base `JMP` with s=0, r=0, k=0 (R241). -/
def execJmp (s : State) : Host.Outcome State Fault Refusal :=
  .next (opJmp { short := false, ret := false, keep := false } s)

/-- `JMP2` (`0x2C`): base `JMP` with s=1, r=0, k=0 (R242). -/
def execJmp2 (s : State) : Host.Outcome State Fault Refusal :=
  .next (opJmp { short := true, ret := false, keep := false } s)

/-- `JMPr` (`0x4C`): base `JMP` with s=0, r=1, k=0 (R243). -/
def execJmpr (s : State) : Host.Outcome State Fault Refusal :=
  .next (opJmp { short := false, ret := true, keep := false } s)

/-- `JMP2r` (`0x6C`): base `JMP` with s=1, r=1, k=0 (R244). -/
def execJmp2r (s : State) : Host.Outcome State Fault Refusal :=
  .next (opJmp { short := true, ret := true, keep := false } s)

/-- `JMPk` (`0x8C`): base `JMP` with s=0, r=0, k=1 (R245). -/
def execJmpk (s : State) : Host.Outcome State Fault Refusal :=
  .next (opJmp { short := false, ret := false, keep := true } s)

/-- `JMP2k` (`0xAC`): base `JMP` with s=1, r=0, k=1 (R246). -/
def execJmp2k (s : State) : Host.Outcome State Fault Refusal :=
  .next (opJmp { short := true, ret := false, keep := true } s)

/-- `JMPkr` (`0xCC`): base `JMP` with s=0, r=1, k=1 (R247). -/
def execJmpkr (s : State) : Host.Outcome State Fault Refusal :=
  .next (opJmp { short := false, ret := true, keep := true } s)

/-- `JMP2kr` (`0xEC`): base `JMP` with s=1, r=1, k=1 (R248). -/
def execJmp2kr (s : State) : Host.Outcome State Fault Refusal :=
  .next (opJmp { short := true, ret := true, keep := true } s)

/-! ### The eight opcodes of `JCN` -/

/-- `JCN` (`0x0D`): base `JCN` with s=0, r=0, k=0 (R250). -/
def execJcn (s : State) : Host.Outcome State Fault Refusal :=
  .next (opJcn { short := false, ret := false, keep := false } s)

/-- `JCN2` (`0x2D`): base `JCN` with s=1, r=0, k=0 (R251). -/
def execJcn2 (s : State) : Host.Outcome State Fault Refusal :=
  .next (opJcn { short := true, ret := false, keep := false } s)

/-- `JCNr` (`0x4D`): base `JCN` with s=0, r=1, k=0 (R252). -/
def execJcnr (s : State) : Host.Outcome State Fault Refusal :=
  .next (opJcn { short := false, ret := true, keep := false } s)

/-- `JCN2r` (`0x6D`): base `JCN` with s=1, r=1, k=0 (R253). -/
def execJcn2r (s : State) : Host.Outcome State Fault Refusal :=
  .next (opJcn { short := true, ret := true, keep := false } s)

/-- `JCNk` (`0x8D`): base `JCN` with s=0, r=0, k=1 (R254). -/
def execJcnk (s : State) : Host.Outcome State Fault Refusal :=
  .next (opJcn { short := false, ret := false, keep := true } s)

/-- `JCN2k` (`0xAD`): base `JCN` with s=1, r=0, k=1 (R255). -/
def execJcn2k (s : State) : Host.Outcome State Fault Refusal :=
  .next (opJcn { short := true, ret := false, keep := true } s)

/-- `JCNkr` (`0xCD`): base `JCN` with s=0, r=1, k=1 (R256). -/
def execJcnkr (s : State) : Host.Outcome State Fault Refusal :=
  .next (opJcn { short := false, ret := true, keep := true } s)

/-- `JCN2kr` (`0xED`): base `JCN` with s=1, r=1, k=1 (R257). -/
def execJcn2kr (s : State) : Host.Outcome State Fault Refusal :=
  .next (opJcn { short := true, ret := true, keep := true } s)

/-! ### The eight opcodes of `JSR` -/

/-- `JSR` (`0x0E`): base `JSR` with s=0, r=0, k=0 (R259). -/
def execJsr (s : State) : Host.Outcome State Fault Refusal :=
  .next (opJsr { short := false, ret := false, keep := false } s)

/-- `JSR2` (`0x2E`): base `JSR` with s=1, r=0, k=0 (R260). -/
def execJsr2 (s : State) : Host.Outcome State Fault Refusal :=
  .next (opJsr { short := true, ret := false, keep := false } s)

/-- `JSRr` (`0x4E`): base `JSR` with s=0, r=1, k=0 (R261). -/
def execJsrr (s : State) : Host.Outcome State Fault Refusal :=
  .next (opJsr { short := false, ret := true, keep := false } s)

/-- `JSR2r` (`0x6E`): base `JSR` with s=1, r=1, k=0 (R262). -/
def execJsr2r (s : State) : Host.Outcome State Fault Refusal :=
  .next (opJsr { short := true, ret := true, keep := false } s)

/-- `JSRk` (`0x8E`): base `JSR` with s=0, r=0, k=1 (R263). -/
def execJsrk (s : State) : Host.Outcome State Fault Refusal :=
  .next (opJsr { short := false, ret := false, keep := true } s)

/-- `JSR2k` (`0xAE`): base `JSR` with s=1, r=0, k=1 (R264). -/
def execJsr2k (s : State) : Host.Outcome State Fault Refusal :=
  .next (opJsr { short := true, ret := false, keep := true } s)

/-- `JSRkr` (`0xCE`): base `JSR` with s=0, r=1, k=1 (R265). -/
def execJsrkr (s : State) : Host.Outcome State Fault Refusal :=
  .next (opJsr { short := false, ret := true, keep := true } s)

/-- `JSR2kr` (`0xEE`): base `JSR` with s=1, r=1, k=1 (R266). -/
def execJsr2kr (s : State) : Host.Outcome State Fault Refusal :=
  .next (opJsr { short := true, ret := true, keep := true } s)

end Sys2Proof.Machine
end

