-- ==== Sys2Proof/Machine/Device.lean ====
section
/-!
DEFINITION. Device I/O: DEI and DEO (46_device.md), each with its eight opcodes: one bridge transaction per instruction (R336).
-/

namespace Sys2Proof.Machine

/-- `DEI` (R340): `port:1 → v:N`. The port is taken, the host is called, and the value it returns is pushed on the active stack
at the index the host left (R332). -/
def opDei (m : Mode) (s : State) : State :=
  let (port, t) := take1 m (beginTake m s)
  bridge (.dei port m.short (activeStack m)) t.st

/-- `DEO` (R349): `v:N port:1 → `. The port and the value are taken and handed to the host; the signal it returns is ignored
unless `deoHaltHonoured` is set (R333). -/
def opDeo (m : Mode) (s : State) : State :=
  let (port, t) := take1 m (beginTake m s)
  let (v, t) := takeN m t
  bridge (.deo port (deviceValue m v) m.short) t.st

/-! ### The eight opcodes of `DEI` -/

/-- `DEI` (`0x16`): base `DEI` with s=0, r=0, k=0 (R341). -/
def execDei (s : State) : Host.Outcome State Fault Refusal :=
  .next (opDei { short := false, ret := false, keep := false } s)

/-- `DEI2` (`0x36`): base `DEI` with s=1, r=0, k=0 (R342). -/
def execDei2 (s : State) : Host.Outcome State Fault Refusal :=
  .next (opDei { short := true, ret := false, keep := false } s)

/-- `DEIr` (`0x56`): base `DEI` with s=0, r=1, k=0 (R343). -/
def execDeir (s : State) : Host.Outcome State Fault Refusal :=
  .next (opDei { short := false, ret := true, keep := false } s)

/-- `DEI2r` (`0x76`): base `DEI` with s=1, r=1, k=0 (R344). -/
def execDei2r (s : State) : Host.Outcome State Fault Refusal :=
  .next (opDei { short := true, ret := true, keep := false } s)

/-- `DEIk` (`0x96`): base `DEI` with s=0, r=0, k=1 (R345). -/
def execDeik (s : State) : Host.Outcome State Fault Refusal :=
  .next (opDei { short := false, ret := false, keep := true } s)

/-- `DEI2k` (`0xB6`): base `DEI` with s=1, r=0, k=1 (R346). -/
def execDei2k (s : State) : Host.Outcome State Fault Refusal :=
  .next (opDei { short := true, ret := false, keep := true } s)

/-- `DEIkr` (`0xD6`): base `DEI` with s=0, r=1, k=1 (R347). -/
def execDeikr (s : State) : Host.Outcome State Fault Refusal :=
  .next (opDei { short := false, ret := true, keep := true } s)

/-- `DEI2kr` (`0xF6`): base `DEI` with s=1, r=1, k=1 (R348). -/
def execDei2kr (s : State) : Host.Outcome State Fault Refusal :=
  .next (opDei { short := true, ret := true, keep := true } s)

/-! ### The eight opcodes of `DEO` -/

/-- `DEO` (`0x17`): base `DEO` with s=0, r=0, k=0 (R350). -/
def execDeo (s : State) : Host.Outcome State Fault Refusal :=
  .next (opDeo { short := false, ret := false, keep := false } s)

/-- `DEO2` (`0x37`): base `DEO` with s=1, r=0, k=0 (R351). -/
def execDeo2 (s : State) : Host.Outcome State Fault Refusal :=
  .next (opDeo { short := true, ret := false, keep := false } s)

/-- `DEOr` (`0x57`): base `DEO` with s=0, r=1, k=0 (R352). -/
def execDeor (s : State) : Host.Outcome State Fault Refusal :=
  .next (opDeo { short := false, ret := true, keep := false } s)

/-- `DEO2r` (`0x77`): base `DEO` with s=1, r=1, k=0 (R353). -/
def execDeo2r (s : State) : Host.Outcome State Fault Refusal :=
  .next (opDeo { short := true, ret := true, keep := false } s)

/-- `DEOk` (`0x97`): base `DEO` with s=0, r=0, k=1 (R354). -/
def execDeok (s : State) : Host.Outcome State Fault Refusal :=
  .next (opDeo { short := false, ret := false, keep := true } s)

/-- `DEO2k` (`0xB7`): base `DEO` with s=1, r=0, k=1 (R355). -/
def execDeo2k (s : State) : Host.Outcome State Fault Refusal :=
  .next (opDeo { short := true, ret := false, keep := true } s)

/-- `DEOkr` (`0xD7`): base `DEO` with s=0, r=1, k=1 (R356). -/
def execDeokr (s : State) : Host.Outcome State Fault Refusal :=
  .next (opDeo { short := false, ret := true, keep := true } s)

/-- `DEO2kr` (`0xF7`): base `DEO` with s=1, r=1, k=1 (R357). -/
def execDeo2kr (s : State) : Host.Outcome State Fault Refusal :=
  .next (opDeo { short := true, ret := true, keep := true } s)

end Sys2Proof.Machine
end

