-- ==== Sys2Proof/Machine/Immediate.lean ====
section
/-!
DEFINITION. The eight immediate opcodes: BRK, JCI, JMI, JSI, LIT, LIT2, LITr, LIT2r (41_immediate.md). The mode fields do not
apply to them; each names its own stack (D6). Their immediate is part of the instruction, so `pc` here is the address after the
immediate bytes: the opcode address plus three for `JCI`, `JMI` and `JSI` (R102).
-/

namespace Sys2Proof.Machine

/-- `BRK` (`0x00`): the end of `run`; it returns `pc`, the address after the `BRK` byte (R104, R120). -/
def execBrk (s : State) : Host.Outcome State Fault Refusal := .next (halt s.pc s)

/-- `JCI` (`0x20`): the condition is a byte popped from `W`, taken whether or not the jump is (R121). -/
def execJci (imm : Short) (s : State) : Host.Outcome State Fault Refusal :=
  let (cond, w) := (s.stack .work).pop1
  let s := s.setStack .work w
  .next (if conditionHolds cond then s.setPc (s.pc + imm) else s)

/-- `JMI` (`0x40`): no stack changes (R122). -/
def execJmi (imm : Short) (s : State) : Host.Outcome State Fault Refusal := .next (s.setPc (s.pc + imm))

/-- `JSI` (`0x60`): the return address goes on `R` (R123). -/
def execJsi (imm : Short) (s : State) : Host.Outcome State Fault Refusal :=
  .next ((pushShort .ret s.pc s).setPc (s.pc + imm))

/-- `LIT` (`0x80`): a byte onto `W` (R124). -/
def execLit (imm : Byte) (s : State) : Host.Outcome State Fault Refusal := .next (pushByte .work imm s)

/-- `LIT2` (`0xA0`): a short onto `W` (R125). -/
def execLit2 (imm : Short) (s : State) : Host.Outcome State Fault Refusal := .next (pushShort .work imm s)

/-- `LITr` (`0xC0`): a byte onto `R` (R126). -/
def execLitr (imm : Byte) (s : State) : Host.Outcome State Fault Refusal := .next (pushByte .ret imm s)

/-- `LIT2r` (`0xE0`): a short onto `R` (R127). -/
def execLit2r (imm : Short) (s : State) : Host.Outcome State Fault Refusal := .next (pushShort .ret imm s)

end Sys2Proof.Machine
end

