-- ==== Sys2Proof/Machine/MemoryOps.lean ====
section
/-!
DEFINITION. Loads and stores: LDZ, STZ, LDR, STR, LDA, STA (45_memory_ops.md), each with its eight opcodes. A store takes the
address or offset from the top and the value from beneath it (D4).
-/

namespace Sys2Proof.Machine

/-- `LDZ` (R270): `addr:1 → v:N`. -/
def opLdz (m : Mode) (s : State) : State :=
  let (addr, t) := take1 m (beginTake m s)
  pushN m (activeStack m) (memReadN m t.st (zeroPageAddr addr)) t.st

/-- `STZ` (R279): `v:N addr:1 → `. -/
def opStz (m : Mode) (s : State) : State :=
  let (addr, t) := take1 m (beginTake m s)
  let (v, t) := takeN m t
  memWriteN m t.st (zeroPageAddr addr) v

/-- `LDR` (R288): `off:1 → v:N`; the offset is a signed byte in both modes (C14). -/
def opLdr (m : Mode) (s : State) : State :=
  let (off, t) := take1 m (beginTake m s)
  pushN m (activeStack m) (memReadN m t.st (relativeAddr t.st.pc off)) t.st

/-- `STR` (R297): `v:N off:1 → `; the offset is a signed byte in both modes (C14). -/
def opStr (m : Mode) (s : State) : State :=
  let (off, t) := take1 m (beginTake m s)
  let (v, t) := takeN m t
  memWriteN m t.st (relativeAddr t.st.pc off) v

/-- `LDA` (R306): `addr:2 → v:N`; the address is a short in both modes. -/
def opLda (m : Mode) (s : State) : State :=
  let (addr, t) := take2 m (beginTake m s)
  pushN m (activeStack m) (memReadN m t.st addr) t.st

/-- `STA` (R315): `v:N addr:2 → `; the address is a short in both modes. -/
def opSta (m : Mode) (s : State) : State :=
  let (addr, t) := take2 m (beginTake m s)
  let (v, t) := takeN m t
  memWriteN m t.st addr v

/-! ### The eight opcodes of `LDZ` -/

/-- `LDZ` (`0x10`): base `LDZ` with s=0, r=0, k=0 (R271). -/
def execLdz (s : State) : Host.Outcome State Fault Refusal :=
  .next (opLdz { short := false, ret := false, keep := false } s)

/-- `LDZ2` (`0x30`): base `LDZ` with s=1, r=0, k=0 (R272). -/
def execLdz2 (s : State) : Host.Outcome State Fault Refusal :=
  .next (opLdz { short := true, ret := false, keep := false } s)

/-- `LDZr` (`0x50`): base `LDZ` with s=0, r=1, k=0 (R273). -/
def execLdzr (s : State) : Host.Outcome State Fault Refusal :=
  .next (opLdz { short := false, ret := true, keep := false } s)

/-- `LDZ2r` (`0x70`): base `LDZ` with s=1, r=1, k=0 (R274). -/
def execLdz2r (s : State) : Host.Outcome State Fault Refusal :=
  .next (opLdz { short := true, ret := true, keep := false } s)

/-- `LDZk` (`0x90`): base `LDZ` with s=0, r=0, k=1 (R275). -/
def execLdzk (s : State) : Host.Outcome State Fault Refusal :=
  .next (opLdz { short := false, ret := false, keep := true } s)

/-- `LDZ2k` (`0xB0`): base `LDZ` with s=1, r=0, k=1 (R276). -/
def execLdz2k (s : State) : Host.Outcome State Fault Refusal :=
  .next (opLdz { short := true, ret := false, keep := true } s)

/-- `LDZkr` (`0xD0`): base `LDZ` with s=0, r=1, k=1 (R277). -/
def execLdzkr (s : State) : Host.Outcome State Fault Refusal :=
  .next (opLdz { short := false, ret := true, keep := true } s)

/-- `LDZ2kr` (`0xF0`): base `LDZ` with s=1, r=1, k=1 (R278). -/
def execLdz2kr (s : State) : Host.Outcome State Fault Refusal :=
  .next (opLdz { short := true, ret := true, keep := true } s)

/-! ### The eight opcodes of `STZ` -/

/-- `STZ` (`0x11`): base `STZ` with s=0, r=0, k=0 (R280). -/
def execStz (s : State) : Host.Outcome State Fault Refusal :=
  .next (opStz { short := false, ret := false, keep := false } s)

/-- `STZ2` (`0x31`): base `STZ` with s=1, r=0, k=0 (R281). -/
def execStz2 (s : State) : Host.Outcome State Fault Refusal :=
  .next (opStz { short := true, ret := false, keep := false } s)

/-- `STZr` (`0x51`): base `STZ` with s=0, r=1, k=0 (R282). -/
def execStzr (s : State) : Host.Outcome State Fault Refusal :=
  .next (opStz { short := false, ret := true, keep := false } s)

/-- `STZ2r` (`0x71`): base `STZ` with s=1, r=1, k=0 (R283). -/
def execStz2r (s : State) : Host.Outcome State Fault Refusal :=
  .next (opStz { short := true, ret := true, keep := false } s)

/-- `STZk` (`0x91`): base `STZ` with s=0, r=0, k=1 (R284). -/
def execStzk (s : State) : Host.Outcome State Fault Refusal :=
  .next (opStz { short := false, ret := false, keep := true } s)

/-- `STZ2k` (`0xB1`): base `STZ` with s=1, r=0, k=1 (R285). -/
def execStz2k (s : State) : Host.Outcome State Fault Refusal :=
  .next (opStz { short := true, ret := false, keep := true } s)

/-- `STZkr` (`0xD1`): base `STZ` with s=0, r=1, k=1 (R286). -/
def execStzkr (s : State) : Host.Outcome State Fault Refusal :=
  .next (opStz { short := false, ret := true, keep := true } s)

/-- `STZ2kr` (`0xF1`): base `STZ` with s=1, r=1, k=1 (R287). -/
def execStz2kr (s : State) : Host.Outcome State Fault Refusal :=
  .next (opStz { short := true, ret := true, keep := true } s)

/-! ### The eight opcodes of `LDR` -/

/-- `LDR` (`0x12`): base `LDR` with s=0, r=0, k=0 (R289). -/
def execLdr (s : State) : Host.Outcome State Fault Refusal :=
  .next (opLdr { short := false, ret := false, keep := false } s)

/-- `LDR2` (`0x32`): base `LDR` with s=1, r=0, k=0 (R290). -/
def execLdr2 (s : State) : Host.Outcome State Fault Refusal :=
  .next (opLdr { short := true, ret := false, keep := false } s)

/-- `LDRr` (`0x52`): base `LDR` with s=0, r=1, k=0 (R291). -/
def execLdrr (s : State) : Host.Outcome State Fault Refusal :=
  .next (opLdr { short := false, ret := true, keep := false } s)

/-- `LDR2r` (`0x72`): base `LDR` with s=1, r=1, k=0 (R292). -/
def execLdr2r (s : State) : Host.Outcome State Fault Refusal :=
  .next (opLdr { short := true, ret := true, keep := false } s)

/-- `LDRk` (`0x92`): base `LDR` with s=0, r=0, k=1 (R293). -/
def execLdrk (s : State) : Host.Outcome State Fault Refusal :=
  .next (opLdr { short := false, ret := false, keep := true } s)

/-- `LDR2k` (`0xB2`): base `LDR` with s=1, r=0, k=1 (R294). -/
def execLdr2k (s : State) : Host.Outcome State Fault Refusal :=
  .next (opLdr { short := true, ret := false, keep := true } s)

/-- `LDRkr` (`0xD2`): base `LDR` with s=0, r=1, k=1 (R295). -/
def execLdrkr (s : State) : Host.Outcome State Fault Refusal :=
  .next (opLdr { short := false, ret := true, keep := true } s)

/-- `LDR2kr` (`0xF2`): base `LDR` with s=1, r=1, k=1 (R296). -/
def execLdr2kr (s : State) : Host.Outcome State Fault Refusal :=
  .next (opLdr { short := true, ret := true, keep := true } s)

/-! ### The eight opcodes of `STR` -/

/-- `STR` (`0x13`): base `STR` with s=0, r=0, k=0 (R298). -/
def execStr (s : State) : Host.Outcome State Fault Refusal :=
  .next (opStr { short := false, ret := false, keep := false } s)

/-- `STR2` (`0x33`): base `STR` with s=1, r=0, k=0 (R299). -/
def execStr2 (s : State) : Host.Outcome State Fault Refusal :=
  .next (opStr { short := true, ret := false, keep := false } s)

/-- `STRr` (`0x53`): base `STR` with s=0, r=1, k=0 (R300). -/
def execStrr (s : State) : Host.Outcome State Fault Refusal :=
  .next (opStr { short := false, ret := true, keep := false } s)

/-- `STR2r` (`0x73`): base `STR` with s=1, r=1, k=0 (R301). -/
def execStr2r (s : State) : Host.Outcome State Fault Refusal :=
  .next (opStr { short := true, ret := true, keep := false } s)

/-- `STRk` (`0x93`): base `STR` with s=0, r=0, k=1 (R302). -/
def execStrk (s : State) : Host.Outcome State Fault Refusal :=
  .next (opStr { short := false, ret := false, keep := true } s)

/-- `STR2k` (`0xB3`): base `STR` with s=1, r=0, k=1 (R303). -/
def execStr2k (s : State) : Host.Outcome State Fault Refusal :=
  .next (opStr { short := true, ret := false, keep := true } s)

/-- `STRkr` (`0xD3`): base `STR` with s=0, r=1, k=1 (R304). -/
def execStrkr (s : State) : Host.Outcome State Fault Refusal :=
  .next (opStr { short := false, ret := true, keep := true } s)

/-- `STR2kr` (`0xF3`): base `STR` with s=1, r=1, k=1 (R305). -/
def execStr2kr (s : State) : Host.Outcome State Fault Refusal :=
  .next (opStr { short := true, ret := true, keep := true } s)

/-! ### The eight opcodes of `LDA` -/

/-- `LDA` (`0x14`): base `LDA` with s=0, r=0, k=0 (R307). -/
def execLda (s : State) : Host.Outcome State Fault Refusal :=
  .next (opLda { short := false, ret := false, keep := false } s)

/-- `LDA2` (`0x34`): base `LDA` with s=1, r=0, k=0 (R308). -/
def execLda2 (s : State) : Host.Outcome State Fault Refusal :=
  .next (opLda { short := true, ret := false, keep := false } s)

/-- `LDAr` (`0x54`): base `LDA` with s=0, r=1, k=0 (R309). -/
def execLdar (s : State) : Host.Outcome State Fault Refusal :=
  .next (opLda { short := false, ret := true, keep := false } s)

/-- `LDA2r` (`0x74`): base `LDA` with s=1, r=1, k=0 (R310). -/
def execLda2r (s : State) : Host.Outcome State Fault Refusal :=
  .next (opLda { short := true, ret := true, keep := false } s)

/-- `LDAk` (`0x94`): base `LDA` with s=0, r=0, k=1 (R311). -/
def execLdak (s : State) : Host.Outcome State Fault Refusal :=
  .next (opLda { short := false, ret := false, keep := true } s)

/-- `LDA2k` (`0xB4`): base `LDA` with s=1, r=0, k=1 (R312). -/
def execLda2k (s : State) : Host.Outcome State Fault Refusal :=
  .next (opLda { short := true, ret := false, keep := true } s)

/-- `LDAkr` (`0xD4`): base `LDA` with s=0, r=1, k=1 (R313). -/
def execLdakr (s : State) : Host.Outcome State Fault Refusal :=
  .next (opLda { short := false, ret := true, keep := true } s)

/-- `LDA2kr` (`0xF4`): base `LDA` with s=1, r=1, k=1 (R314). -/
def execLda2kr (s : State) : Host.Outcome State Fault Refusal :=
  .next (opLda { short := true, ret := true, keep := true } s)

/-! ### The eight opcodes of `STA` -/

/-- `STA` (`0x15`): base `STA` with s=0, r=0, k=0 (R316). -/
def execSta (s : State) : Host.Outcome State Fault Refusal :=
  .next (opSta { short := false, ret := false, keep := false } s)

/-- `STA2` (`0x35`): base `STA` with s=1, r=0, k=0 (R317). -/
def execSta2 (s : State) : Host.Outcome State Fault Refusal :=
  .next (opSta { short := true, ret := false, keep := false } s)

/-- `STAr` (`0x55`): base `STA` with s=0, r=1, k=0 (R318). -/
def execStar (s : State) : Host.Outcome State Fault Refusal :=
  .next (opSta { short := false, ret := true, keep := false } s)

/-- `STA2r` (`0x75`): base `STA` with s=1, r=1, k=0 (R319). -/
def execSta2r (s : State) : Host.Outcome State Fault Refusal :=
  .next (opSta { short := true, ret := true, keep := false } s)

/-- `STAk` (`0x95`): base `STA` with s=0, r=0, k=1 (R320). -/
def execStak (s : State) : Host.Outcome State Fault Refusal :=
  .next (opSta { short := false, ret := false, keep := true } s)

/-- `STA2k` (`0xB5`): base `STA` with s=1, r=0, k=1 (R321). -/
def execSta2k (s : State) : Host.Outcome State Fault Refusal :=
  .next (opSta { short := true, ret := false, keep := true } s)

/-- `STAkr` (`0xD5`): base `STA` with s=0, r=1, k=1 (R322). -/
def execStakr (s : State) : Host.Outcome State Fault Refusal :=
  .next (opSta { short := false, ret := true, keep := true } s)

/-- `STA2kr` (`0xF5`): base `STA` with s=1, r=1, k=1 (R323). -/
def execSta2kr (s : State) : Host.Outcome State Fault Refusal :=
  .next (opSta { short := true, ret := true, keep := true } s)

end Sys2Proof.Machine
end

