-- ==== Sys2Proof/Machine/StackOps.lean ====
section
/-!
DEFINITION. Stack operations: POP, NIP, SWP, ROT, DUP, OVR, STH (42_stack.md), each with its eight opcodes.
-/

namespace Sys2Proof.Machine

/-- `POP` (R130): discard the top value. With the keep flag nothing changes (R80). -/
def opPop (m : Mode) (s : State) : State :=
  let (_, t) := takeN m (beginTake m s)
  t.st

/-- `NIP` (R139): `a b → b`. -/
def opNip (m : Mode) (s : State) : State :=
  let (b, t) := takeN m (beginTake m s)
  let (_, t) := takeN m t
  pushN m (activeStack m) b t.st

/-- `SWP` (R148): `a b → b a`. -/
def opSwp (m : Mode) (s : State) : State :=
  let (b, t) := takeN m (beginTake m s)
  let (a, t) := takeN m t
  pushN m (activeStack m) a (pushN m (activeStack m) b t.st)

/-- `ROT` (R157): `a b c → b c a`. -/
def opRot (m : Mode) (s : State) : State :=
  let (c, t) := takeN m (beginTake m s)
  let (b, t) := takeN m t
  let (a, t) := takeN m t
  pushN m (activeStack m) a (pushN m (activeStack m) c (pushN m (activeStack m) b t.st))

/-- `DUP` (R166): `a → a a`. -/
def opDup (m : Mode) (s : State) : State :=
  let (a, t) := takeN m (beginTake m s)
  pushN m (activeStack m) a (pushN m (activeStack m) a t.st)

/-- `OVR` (R175): `a b → a b a`. -/
def opOvr (m : Mode) (s : State) : State :=
  let (b, t) := takeN m (beginTake m s)
  let (a, t) := takeN m t
  pushN m (activeStack m) a (pushN m (activeStack m) b (pushN m (activeStack m) a t.st))

/-- `STH` (R184): the top value of the active stack goes to the other stack; the keep flag does not suppress the push (R100). -/
def opSth (m : Mode) (s : State) : State :=
  let (a, t) := takeN m (beginTake m s)
  pushN m (otherStack m) a t.st

/-! ### The eight opcodes of `POP` -/

/-- `POP` (`0x02`): base `POP` with s=0, r=0, k=0 (R131). -/
def execPop (s : State) : Host.Outcome State Fault Refusal :=
  .next (opPop { short := false, ret := false, keep := false } s)

/-- `POP2` (`0x22`): base `POP` with s=1, r=0, k=0 (R132). -/
def execPop2 (s : State) : Host.Outcome State Fault Refusal :=
  .next (opPop { short := true, ret := false, keep := false } s)

/-- `POPr` (`0x42`): base `POP` with s=0, r=1, k=0 (R133). -/
def execPopr (s : State) : Host.Outcome State Fault Refusal :=
  .next (opPop { short := false, ret := true, keep := false } s)

/-- `POP2r` (`0x62`): base `POP` with s=1, r=1, k=0 (R134). -/
def execPop2r (s : State) : Host.Outcome State Fault Refusal :=
  .next (opPop { short := true, ret := true, keep := false } s)

/-- `POPk` (`0x82`): base `POP` with s=0, r=0, k=1 (R135). -/
def execPopk (s : State) : Host.Outcome State Fault Refusal :=
  .next (opPop { short := false, ret := false, keep := true } s)

/-- `POP2k` (`0xA2`): base `POP` with s=1, r=0, k=1 (R136). -/
def execPop2k (s : State) : Host.Outcome State Fault Refusal :=
  .next (opPop { short := true, ret := false, keep := true } s)

/-- `POPkr` (`0xC2`): base `POP` with s=0, r=1, k=1 (R137). -/
def execPopkr (s : State) : Host.Outcome State Fault Refusal :=
  .next (opPop { short := false, ret := true, keep := true } s)

/-- `POP2kr` (`0xE2`): base `POP` with s=1, r=1, k=1 (R138). -/
def execPop2kr (s : State) : Host.Outcome State Fault Refusal :=
  .next (opPop { short := true, ret := true, keep := true } s)

/-! ### The eight opcodes of `NIP` -/

/-- `NIP` (`0x03`): base `NIP` with s=0, r=0, k=0 (R140). -/
def execNip (s : State) : Host.Outcome State Fault Refusal :=
  .next (opNip { short := false, ret := false, keep := false } s)

/-- `NIP2` (`0x23`): base `NIP` with s=1, r=0, k=0 (R141). -/
def execNip2 (s : State) : Host.Outcome State Fault Refusal :=
  .next (opNip { short := true, ret := false, keep := false } s)

/-- `NIPr` (`0x43`): base `NIP` with s=0, r=1, k=0 (R142). -/
def execNipr (s : State) : Host.Outcome State Fault Refusal :=
  .next (opNip { short := false, ret := true, keep := false } s)

/-- `NIP2r` (`0x63`): base `NIP` with s=1, r=1, k=0 (R143). -/
def execNip2r (s : State) : Host.Outcome State Fault Refusal :=
  .next (opNip { short := true, ret := true, keep := false } s)

/-- `NIPk` (`0x83`): base `NIP` with s=0, r=0, k=1 (R144). -/
def execNipk (s : State) : Host.Outcome State Fault Refusal :=
  .next (opNip { short := false, ret := false, keep := true } s)

/-- `NIP2k` (`0xA3`): base `NIP` with s=1, r=0, k=1 (R145). -/
def execNip2k (s : State) : Host.Outcome State Fault Refusal :=
  .next (opNip { short := true, ret := false, keep := true } s)

/-- `NIPkr` (`0xC3`): base `NIP` with s=0, r=1, k=1 (R146). -/
def execNipkr (s : State) : Host.Outcome State Fault Refusal :=
  .next (opNip { short := false, ret := true, keep := true } s)

/-- `NIP2kr` (`0xE3`): base `NIP` with s=1, r=1, k=1 (R147). -/
def execNip2kr (s : State) : Host.Outcome State Fault Refusal :=
  .next (opNip { short := true, ret := true, keep := true } s)

/-! ### The eight opcodes of `SWP` -/

/-- `SWP` (`0x04`): base `SWP` with s=0, r=0, k=0 (R149). -/
def execSwp (s : State) : Host.Outcome State Fault Refusal :=
  .next (opSwp { short := false, ret := false, keep := false } s)

/-- `SWP2` (`0x24`): base `SWP` with s=1, r=0, k=0 (R150). -/
def execSwp2 (s : State) : Host.Outcome State Fault Refusal :=
  .next (opSwp { short := true, ret := false, keep := false } s)

/-- `SWPr` (`0x44`): base `SWP` with s=0, r=1, k=0 (R151). -/
def execSwpr (s : State) : Host.Outcome State Fault Refusal :=
  .next (opSwp { short := false, ret := true, keep := false } s)

/-- `SWP2r` (`0x64`): base `SWP` with s=1, r=1, k=0 (R152). -/
def execSwp2r (s : State) : Host.Outcome State Fault Refusal :=
  .next (opSwp { short := true, ret := true, keep := false } s)

/-- `SWPk` (`0x84`): base `SWP` with s=0, r=0, k=1 (R153). -/
def execSwpk (s : State) : Host.Outcome State Fault Refusal :=
  .next (opSwp { short := false, ret := false, keep := true } s)

/-- `SWP2k` (`0xA4`): base `SWP` with s=1, r=0, k=1 (R154). -/
def execSwp2k (s : State) : Host.Outcome State Fault Refusal :=
  .next (opSwp { short := true, ret := false, keep := true } s)

/-- `SWPkr` (`0xC4`): base `SWP` with s=0, r=1, k=1 (R155). -/
def execSwpkr (s : State) : Host.Outcome State Fault Refusal :=
  .next (opSwp { short := false, ret := true, keep := true } s)

/-- `SWP2kr` (`0xE4`): base `SWP` with s=1, r=1, k=1 (R156). -/
def execSwp2kr (s : State) : Host.Outcome State Fault Refusal :=
  .next (opSwp { short := true, ret := true, keep := true } s)

/-! ### The eight opcodes of `ROT` -/

/-- `ROT` (`0x05`): base `ROT` with s=0, r=0, k=0 (R158). -/
def execRot (s : State) : Host.Outcome State Fault Refusal :=
  .next (opRot { short := false, ret := false, keep := false } s)

/-- `ROT2` (`0x25`): base `ROT` with s=1, r=0, k=0 (R159). -/
def execRot2 (s : State) : Host.Outcome State Fault Refusal :=
  .next (opRot { short := true, ret := false, keep := false } s)

/-- `ROTr` (`0x45`): base `ROT` with s=0, r=1, k=0 (R160). -/
def execRotr (s : State) : Host.Outcome State Fault Refusal :=
  .next (opRot { short := false, ret := true, keep := false } s)

/-- `ROT2r` (`0x65`): base `ROT` with s=1, r=1, k=0 (R161). -/
def execRot2r (s : State) : Host.Outcome State Fault Refusal :=
  .next (opRot { short := true, ret := true, keep := false } s)

/-- `ROTk` (`0x85`): base `ROT` with s=0, r=0, k=1 (R162). -/
def execRotk (s : State) : Host.Outcome State Fault Refusal :=
  .next (opRot { short := false, ret := false, keep := true } s)

/-- `ROT2k` (`0xA5`): base `ROT` with s=1, r=0, k=1 (R163). -/
def execRot2k (s : State) : Host.Outcome State Fault Refusal :=
  .next (opRot { short := true, ret := false, keep := true } s)

/-- `ROTkr` (`0xC5`): base `ROT` with s=0, r=1, k=1 (R164). -/
def execRotkr (s : State) : Host.Outcome State Fault Refusal :=
  .next (opRot { short := false, ret := true, keep := true } s)

/-- `ROT2kr` (`0xE5`): base `ROT` with s=1, r=1, k=1 (R165). -/
def execRot2kr (s : State) : Host.Outcome State Fault Refusal :=
  .next (opRot { short := true, ret := true, keep := true } s)

/-! ### The eight opcodes of `DUP` -/

/-- `DUP` (`0x06`): base `DUP` with s=0, r=0, k=0 (R167). -/
def execDup (s : State) : Host.Outcome State Fault Refusal :=
  .next (opDup { short := false, ret := false, keep := false } s)

/-- `DUP2` (`0x26`): base `DUP` with s=1, r=0, k=0 (R168). -/
def execDup2 (s : State) : Host.Outcome State Fault Refusal :=
  .next (opDup { short := true, ret := false, keep := false } s)

/-- `DUPr` (`0x46`): base `DUP` with s=0, r=1, k=0 (R169). -/
def execDupr (s : State) : Host.Outcome State Fault Refusal :=
  .next (opDup { short := false, ret := true, keep := false } s)

/-- `DUP2r` (`0x66`): base `DUP` with s=1, r=1, k=0 (R170). -/
def execDup2r (s : State) : Host.Outcome State Fault Refusal :=
  .next (opDup { short := true, ret := true, keep := false } s)

/-- `DUPk` (`0x86`): base `DUP` with s=0, r=0, k=1 (R171). -/
def execDupk (s : State) : Host.Outcome State Fault Refusal :=
  .next (opDup { short := false, ret := false, keep := true } s)

/-- `DUP2k` (`0xA6`): base `DUP` with s=1, r=0, k=1 (R172). -/
def execDup2k (s : State) : Host.Outcome State Fault Refusal :=
  .next (opDup { short := true, ret := false, keep := true } s)

/-- `DUPkr` (`0xC6`): base `DUP` with s=0, r=1, k=1 (R173). -/
def execDupkr (s : State) : Host.Outcome State Fault Refusal :=
  .next (opDup { short := false, ret := true, keep := true } s)

/-- `DUP2kr` (`0xE6`): base `DUP` with s=1, r=1, k=1 (R174). -/
def execDup2kr (s : State) : Host.Outcome State Fault Refusal :=
  .next (opDup { short := true, ret := true, keep := true } s)

/-! ### The eight opcodes of `OVR` -/

/-- `OVR` (`0x07`): base `OVR` with s=0, r=0, k=0 (R176). -/
def execOvr (s : State) : Host.Outcome State Fault Refusal :=
  .next (opOvr { short := false, ret := false, keep := false } s)

/-- `OVR2` (`0x27`): base `OVR` with s=1, r=0, k=0 (R177). -/
def execOvr2 (s : State) : Host.Outcome State Fault Refusal :=
  .next (opOvr { short := true, ret := false, keep := false } s)

/-- `OVRr` (`0x47`): base `OVR` with s=0, r=1, k=0 (R178). -/
def execOvrr (s : State) : Host.Outcome State Fault Refusal :=
  .next (opOvr { short := false, ret := true, keep := false } s)

/-- `OVR2r` (`0x67`): base `OVR` with s=1, r=1, k=0 (R179). -/
def execOvr2r (s : State) : Host.Outcome State Fault Refusal :=
  .next (opOvr { short := true, ret := true, keep := false } s)

/-- `OVRk` (`0x87`): base `OVR` with s=0, r=0, k=1 (R180). -/
def execOvrk (s : State) : Host.Outcome State Fault Refusal :=
  .next (opOvr { short := false, ret := false, keep := true } s)

/-- `OVR2k` (`0xA7`): base `OVR` with s=1, r=0, k=1 (R181). -/
def execOvr2k (s : State) : Host.Outcome State Fault Refusal :=
  .next (opOvr { short := true, ret := false, keep := true } s)

/-- `OVRkr` (`0xC7`): base `OVR` with s=0, r=1, k=1 (R182). -/
def execOvrkr (s : State) : Host.Outcome State Fault Refusal :=
  .next (opOvr { short := false, ret := true, keep := true } s)

/-- `OVR2kr` (`0xE7`): base `OVR` with s=1, r=1, k=1 (R183). -/
def execOvr2kr (s : State) : Host.Outcome State Fault Refusal :=
  .next (opOvr { short := true, ret := true, keep := true } s)

/-! ### The eight opcodes of `STH` -/

/-- `STH` (`0x0F`): base `STH` with s=0, r=0, k=0 (R185). -/
def execSth (s : State) : Host.Outcome State Fault Refusal :=
  .next (opSth { short := false, ret := false, keep := false } s)

/-- `STH2` (`0x2F`): base `STH` with s=1, r=0, k=0 (R186). -/
def execSth2 (s : State) : Host.Outcome State Fault Refusal :=
  .next (opSth { short := true, ret := false, keep := false } s)

/-- `STHr` (`0x4F`): base `STH` with s=0, r=1, k=0 (R187). -/
def execSthr (s : State) : Host.Outcome State Fault Refusal :=
  .next (opSth { short := false, ret := true, keep := false } s)

/-- `STH2r` (`0x6F`): base `STH` with s=1, r=1, k=0 (R188). -/
def execSth2r (s : State) : Host.Outcome State Fault Refusal :=
  .next (opSth { short := true, ret := true, keep := false } s)

/-- `STHk` (`0x8F`): base `STH` with s=0, r=0, k=1 (R189). -/
def execSthk (s : State) : Host.Outcome State Fault Refusal :=
  .next (opSth { short := false, ret := false, keep := true } s)

/-- `STH2k` (`0xAF`): base `STH` with s=1, r=0, k=1 (R190). -/
def execSth2k (s : State) : Host.Outcome State Fault Refusal :=
  .next (opSth { short := true, ret := false, keep := true } s)

/-- `STHkr` (`0xCF`): base `STH` with s=0, r=1, k=1 (R191). -/
def execSthkr (s : State) : Host.Outcome State Fault Refusal :=
  .next (opSth { short := false, ret := true, keep := true } s)

/-- `STH2kr` (`0xEF`): base `STH` with s=1, r=1, k=1 (R192). -/
def execSth2kr (s : State) : Host.Outcome State Fault Refusal :=
  .next (opSth { short := true, ret := true, keep := true } s)

end Sys2Proof.Machine
end

