-- ==== Sys2Proof/Machine/Step.lean ====
section
/-!
DEFINITION. One step of the machine (R90 of 40_execution.md), and the placing of an instruction where the step fetches it.
-/

namespace Sys2Proof.Machine

/-- One step. Before the boot call, the boot call `run(vm, 0x0100)` (R491); while a run executes, one instruction: fetched at
`pc`, `pc` moved past it, and executed (R90, R91, R499); while the host has the machine, one turn of the host (R334). Stuck in a bridge
call, there is no step (R475). -/
def step (s : State) : Host.Outcome State Fault Refusal :=
  match s.phase with
  | .created => .next (startRun Config.bootEntry s)
  | .running => exec (fetchInstr s) (s.advancePc (fetchInstr s).length)
  | .hosting => .next (hostMove s)
  | .stuck why => .refused (.stuck why)

/-- The state with a run executing: a session that has made no boot call makes it (R491), and a run that does not execute is
taken up at `pc`. -/
def State.atFetch (s : State) : State :=
  match s.phase with
  | .created => startRun Config.bootEntry s
  | .running => s
  | .hosting => startRun s.pc s
  | .stuck _ => startRun s.pc s

/-- The state with the instruction of table word `w` stored at the place the next step fetches from: its three bytes at `pc`,
`pc + 1` and `pc + 2`, the bits above `nbits` zero (log 4). -/
def State.withFetchWord (s : State) (nbits w : Nat) : State :=
  let s := s.atFetch
  let v := w % 2 ^ nbits
  ((s.writeByte s.pc (byteOfWord v 0)).writeByte (s.pc + 1) (byteOfWord v 1)).writeByte (s.pc + 2) (byteOfWord v 2)

end Sys2Proof.Machine
end

