-- ==== Sys2Proof/Machine/Assembly.lean ====
section
/-!
DEFINITION. The assembly notation (R13 of 00_scope.md; R83 to R86 of 30_encoding.md): the mnemonic of an opcode byte, the byte of
a mnemonic, the text of an instruction and the bytes of a line. The notation is the spec's own (D14) and no part of a step; text
is a list of characters. Where R86 leaves the text open (spaces, the case of hex digits) the choices are log 16.
-/

namespace Sys2Proof

/-- The text of the assembly notation. -/
abbrev Text := List Char

/-- The name of the base operation with base field `base`, `none` for the immediate opcodes' field 0 (R72). -/
def baseName (base : BitVec 5) : Option Text :=
  [none, some ['I','N','C'], some ['P','O','P'], some ['N','I','P'], some ['S','W','P'], some ['R','O','T'], some ['D','U','P'],
   some ['O','V','R'], some ['E','Q','U'], some ['N','E','Q'], some ['G','T','H'], some ['L','T','H'], some ['J','M','P'],
   some ['J','C','N'], some ['J','S','R'], some ['S','T','H'], some ['L','D','Z'], some ['S','T','Z'], some ['L','D','R'],
   some ['S','T','R'], some ['L','D','A'], some ['S','T','A'], some ['D','E','I'], some ['D','E','O'], some ['A','D','D'],
   some ['S','U','B'], some ['M','U','L'], some ['D','I','V'], some ['A','N','D'], some ['O','R','A'], some ['E','O','R'],
   some ['S','F','T']].getD base.toNat none

/-- The names and bytes of the immediate opcodes (R73). -/
def immediateNames : List (Text × Byte) :=
  [(['B','R','K'], 0x00), (['J','C','I'], 0x20), (['J','M','I'], 0x40), (['J','S','I'], 0x60), (['L','I','T'], 0x80),
   (['L','I','T','2'], 0xA0), (['L','I','T','r'], 0xC0), (['L','I','T','2','r'], 0xE0)]

/-- The suffixes of an opcode byte, in the order `2`, `k`, `r` (R13, R83). -/
def suffixes (op : Byte) : Text :=
  (if op.getLsbD 5 then ['2'] else []) ++ (if op.getLsbD 7 then ['k'] else []) ++ (if op.getLsbD 6 then ['r'] else [])

/-- The mnemonic of an opcode byte: a fixed name for the immediate opcodes, else the base name and its suffixes (R73, R83). -/
def mnemonicOfByte (op : Byte) : Text :=
  match baseName (op.extractLsb' 0 5) with
  | some name => name ++ suffixes op
  | none => ((immediateNames.find? (fun e => e.2 == op)).map (fun e => e.1)).getD []

/-- The mnemonic of an instruction (R83). -/
def mnemonic (i : Instr) : Text := mnemonicOfByte (opcode i)

/-! ## Assembling (R84) -/

/-- The base field of a base operation's name; `BRK` is not one (R72, R84). -/
def baseOfName (name : Text) : Option (BitVec 5) :=
  ((List.range 32).find? (fun n => baseName (BitVec.ofNat 5 n) == some name)).map (BitVec.ofNat 5)

/-- Take the suffix `c` off the front if it stands there, and say whether it did. -/
def takeSuffix (c : Char) : Text → Bool × Text
  | [] => (false, [])
  | d :: rest => if d = c then (true, rest) else (false, d :: rest)

/-- The byte of a mnemonic, `none` for a text that is none (R84): a name of R73 exactly; else a base name with each suffix at
most once, in the order `2`, `k`, `r`: the base value, plus `0x20` for `2`, `0x80` for `k` and `0x40` for `r`. -/
def byteOfMnemonic (text : Text) : Option Byte :=
  match immediateNames.find? (fun e => e.1 == text) with
  | some e => some e.2
  | none =>
    match baseOfName (text.take 3) with
    | none => none
    | some base =>
      let (two, rest) := takeSuffix '2' (text.drop 3)
      let (keep, rest) := takeSuffix 'k' rest
      let (ret, rest) := takeSuffix 'r' rest
      if rest.isEmpty then
        some (base.setWidth 8 + (if two then 0x20 else 0) + (if keep then 0x80 else 0) + (if ret then 0x40 else 0))
      else none

/-! ## Hexadecimal (R8, R13) -/

/-- The hexadecimal digit of a value below 16. -/
def hexDigit (n : Nat) : Char :=
  ['0','1','2','3','4','5','6','7','8','9','a','b','c','d','e','f'].getD n '0'

/-- The value of a hexadecimal digit; both cases are read. -/
def hexValue (c : Char) : Option Nat :=
  let n := c.toNat
  if 48 ≤ n ∧ n ≤ 57 then some (n - 48)
  else if 97 ≤ n ∧ n ≤ 102 then some (n - 87)
  else if 65 ≤ n ∧ n ≤ 70 then some (n - 55)
  else none

/-- A byte as two hex digits. -/
def hexOfByte (b : Byte) : Text := [hexDigit (b.toNat / 16), hexDigit (b.toNat % 16)]

/-- A byte from exactly two hex digits. -/
def byteOfHex : Text → Option Byte
  | [h, l] =>
    match hexValue h, hexValue l with
    | some h, some l => some (BitVec.ofNat 8 (16 * h + l))
    | _, _ => none
  | _ => none

/-- A short from exactly four hex digits. -/
def shortOfHex (text : Text) : Option Short :=
  match byteOfHex (text.take 2), byteOfHex (text.drop 2) with
  | some hi, some lo => some (concatBytes hi lo)
  | _, _ => none

/-! ## Instructions and lines (R86) -/

/-- The operand text of an instruction with this opcode byte and these immediate bytes, high byte first (R86). -/
def operandText (op : Byte) (imm : List Byte) : Text :=
  if imm.isEmpty then []
  else ' ' :: ((if op = 0x20 ∨ op = 0x40 ∨ op = 0x60 then ['+'] else []) ++ imm.flatMap hexOfByte)

/-- The text of an instruction: its mnemonic and its operand (R86). -/
def instrText (i : Instr) : Text := mnemonic i ++ operandText (opcode i) (immediateBytes i)

/-- The immediate bytes an operand word stands for after this opcode byte: `hh` exactly for `LIT` and `LITr`; `hhhh` exactly for
`LIT2` and `LIT2r`; `+hhhh` exactly for `JCI`, `JMI` and `JSI` (R86). -/
def immediateOfWord (op : Byte) (word : Text) : Option (List Byte) :=
  if lengthOfOpcode op = 2 then (byteOfHex word).map (fun b => [b])
  else if op = 0xA0 ∨ op = 0xE0 then (shortOfHex word).map (fun v => [hiByte v, loByte v])
  else if lengthOfOpcode op = 3 then
    match word with
    | '+' :: digits => (shortOfHex digits).map (fun v => [hiByte v, loByte v])
    | _ => none
  else none

/-- The bytes of an instruction given as words: its opcode byte, then its operand bytes (R86). -/
def assembleInstr : List Text → Option (List Byte)
  | [name] =>
    match byteOfMnemonic name with
    | some op => if lengthOfOpcode op = 1 then some [op] else none
    | none => none
  | [name, word] =>
    match byteOfMnemonic name with
    | some op => (immediateOfWord op word).map (fun imm => op :: imm)
    | none => none
  | _ => none

/-- Cut a text at every `sep`. -/
def cutAt (sep : Char) : Text → List Text
  | [] => [[]]
  | c :: rest =>
    if c = sep then [] :: cutAt sep rest
    else
      match cutAt sep rest with
      | [] => [[c]]
      | piece :: pieces => (c :: piece) :: pieces

/-- The words of a text: what stands between spaces. -/
def wordsOf (text : Text) : List Text := (cutAt ' ' text).filter (fun w => !w.isEmpty)

/-- The bytes of an item: an instruction, or raw bytes placed as listed (R86). -/
def assembleItem (words : List Text) : Option (List Byte) :=
  match assembleInstr words with
  | some bytes => some bytes
  | none => if words.isEmpty then none else words.mapM byteOfHex

/-- The line without its `addr:` annotation, which has no encoding and no effect; `none` where what stands before the colon is
not four hex digits (R86). -/
def dropAnnotation (line : Text) : Option Text :=
  match cutAt ':' line with
  | [body] => some body
  | [addr, body] =>
    match wordsOf addr with
    | [digits] => if (shortOfHex digits).isSome then some body else none
    | _ => none
  | _ => none

/-- The bytes of a line: an optional annotation, then items separated by `;` (R86). `none` where the text is not a line. -/
def assembleLine (line : Text) : Option (List Byte) :=
  match dropAnnotation line with
  | some body => ((cutAt ';' body).mapM (fun item => assembleItem (wordsOf item))).map List.flatten
  | none => none

end Sys2Proof
end

