-- ==== Sys2Proof/Safety.lean ====
section
/-!
DEFINITION. What counts as a safe run, and the words in which statements about the machine are made: the machine's invariant, and
an observation of stacks and memory by natural numbers that uses none of the model's stack, memory or operand operations beyond
reading one byte.
-/

namespace Sys2Proof.Machine

/-! ## Safety and the invariant -/

/-- The step from `s` is safe: it gives a next state, neither a fault nor a refusal (R460, R475 of 60_exceptions.md). -/
def Safe (s : State) : Prop := ∃ t, step s = .next t

/-- The machine's invariant. -/
structure State.Inv (s : State) : Prop where
  /-- Memory is in its canonical form. -/
  mem : Memory.wf Config.memorySize s.mem = true
  /-- The working stack's bytes are in canonical form. -/
  wst : Memory.wf Config.stackSize s.wst.data = true
  /-- The return stack's bytes are in canonical form. -/
  rst : Memory.wf Config.stackSize s.rst.data = true
  /-- Before the boot call nothing has run and nothing has called the host (R40, R41, R491). -/
  created : s.phase = .created → s.suspended = [] ∧ s.result = none ∧ s.calls = []
  /-- The machine is stuck only inside a bridge call, which a suspended run waits on (R475). -/
  stuckInCall : ∀ why, s.phase = .stuck why → s.suspended ≠ []
  /-- Every suspended run waits on a transaction that has been made, the outer ones before the inner ones (R40, R336). -/
  asked : (s.suspended.reverse.map (fun f => f.transaction.call)).Sublist s.calls

/-! ## Opcode bytes -/

/-- The number of a base operation in the table of R72. -/
def baseNumber : Base → Nat
  | .inc => 0x01 | .pop => 0x02 | .nip => 0x03 | .swp => 0x04 | .rot => 0x05 | .dup => 0x06 | .ovr => 0x07
  | .equ => 0x08 | .neq => 0x09 | .gth => 0x0A | .lth => 0x0B | .jmp => 0x0C | .jcn => 0x0D | .jsr => 0x0E | .sth => 0x0F
  | .ldz => 0x10 | .stz => 0x11 | .ldr => 0x12 | .str => 0x13 | .lda => 0x14 | .sta => 0x15 | .dei => 0x16 | .deo => 0x17
  | .add => 0x18 | .sub => 0x19 | .mul => 0x1A | .div => 0x1B | .and => 0x1C | .ora => 0x1D | .eor => 0x1E | .sft => 0x1F

/-- The opcode byte with this base value and these modes: `0x20` for short, `0x40` for return, `0x80` for keep (R71). -/
def opcodeByte (base : Nat) (m : Mode) : Byte :=
  BitVec.ofNat 8 (base + (if m.short then 0x20 else 0) + (if m.ret then 0x40 else 0) + (if m.keep then 0x80 else 0))

/-! ## Reading stacks and memory as numbers -/

/-- `N`: the operand width in bytes (R93). -/
def operandBytes (m : Mode) : Nat := if m.short then 2 else 1

/-- The byte in slot `i mod 256` of a stack, as a number. -/
def slotAt (t : Stack) (i : Nat) : Nat := (Memory.read t.data (i % 256)).toNat

/-- The byte `n` below the top of a stack; `n = 0` is the top (R23, R29). For `n` up to 256. -/
def fromTop (t : Stack) (n : Nat) : Nat := slotAt t (t.idx.toNat + 256 - n)

/-- The value of `N` bytes whose low byte is `n` below the top; a short's high byte lies beneath its low byte (R25, R32). -/
def valueFromTop (t : Stack) (n N : Nat) : Nat :=
  if N = 2 then 256 * fromTop t (n + 1) + fromTop t n else fromTop t n

/-- The memory byte at address `a mod 2^16`, as a number. -/
def byteAt (s : State) (a : Nat) : Nat := (Memory.read s.mem (a % 65536)).toNat

/-- The value of `N` bytes at address `a`: a short's high byte is at `a` (R51, R53). -/
def valueAt (s : State) (a N : Nat) : Nat := if N = 2 then 256 * byteAt s a + byteAt s (a + 1) else byteAt s a

/-- The `N` bytes of a number taken mod `2^(8N)`, high byte first: as a push and a store write them (R30, R52). -/
def bytesOf (N v : Nat) : List Nat := if N = 2 then [v / 256 % 256, v % 256] else [v % 256]

/-- `sext_8` (R9). -/
def signedByte (v : Nat) : Int := if v < 128 then v else (v : Int) - 256

/-- `(pc + sext_8(off)) mod 2^16`, as a number (R76). -/
def relativeTarget (pc : Addr) (off : Nat) : Nat := (((pc.toNat : Int) + signedByte off) % 65536).toNat

/-- The target of `JMP*`, `JCN*`, `JSR*` for an operand of `N` bytes: an absolute short or a signed offset (R240, C1). -/
def jumpTargetAt (pc : Addr) (N operand : Nat) : Nat := if N = 2 then operand else relativeTarget pc operand

/-! ## What a handler changes and what it keeps -/

/-- The index of the active stack after an instruction has taken `taken` bytes: moved down without the keep flag (R96). -/
def indexAfterTaking (m : Mode) (t : Stack) (taken : Nat) : Nat :=
  if m.keep then t.idx.toNat else (t.idx.toNat + 256 - taken) % 256

/-- `t'` is the stack `t` with its index first put at `base` and then `bytes` pushed, the first one deepest: the new index,
the pushed bytes, and every other slot as before. -/
def StackBecomes (t t' : Stack) (base : Nat) (bytes : List Nat) : Prop :=
  t'.idx.toNat = (base + bytes.length) % 256 ∧
  (∀ k, k < bytes.length → slotAt t' (base + 1 + k) = bytes.getD k 0) ∧
  (∀ i, (∀ k, k < bytes.length → i % 256 ≠ (base + 1 + k) % 256) → slotAt t' i = slotAt t i)

/-- Every byte of memory reads as before. -/
def MemoryKept (s t : State) : Prop := ∀ a : Addr, t.readByte a = s.readByte a

/-- The bytes stand in memory from address `addr` on, mod `2^16`, and every other byte of memory reads as before. -/
def MemoryBecomes (s t : State) (addr : Nat) (bytes : List Nat) : Prop :=
  (∀ k, k < bytes.length → byteAt t (addr + k) = bytes.getD k 0) ∧
  (∀ a : Addr, (∀ k, k < bytes.length → a.toNat ≠ (addr + k) % 65536) → t.readByte a = s.readByte a)

/-- What no handler but `BRK`, `DEI*` and `DEO*` touches: who acts, the suspended runs, the last result, the halt parameter, the
host's calls and its turns (R101). -/
def RestKept (s t : State) : Prop :=
  t.phase = s.phase ∧ t.suspended = s.suspended ∧ t.result = s.result ∧ t.deoHaltHonoured = s.deoHaltHonoured ∧
  t.calls = s.calls ∧ t.script = s.script ∧ t.clock = s.clock

/-- From `s` to `t` the instruction takes `taken` bytes from its active stack and pushes `bytes` there, and nothing else changes:
not the other stack, not `pc`, no byte of memory, no run frame, no host call (R98, R101). -/
def OnlyActiveStack (m : Mode) (s t : State) (taken : Nat) (bytes : List Nat) : Prop :=
  StackBecomes (s.stack (activeStack m)) (t.stack (activeStack m))
    (indexAfterTaking m (s.stack (activeStack m)) taken) bytes ∧
  t.stack (otherStack m) = s.stack (otherStack m) ∧ t.pc = s.pc ∧ MemoryKept s t ∧ RestKept s t

/-- The state in which the host gets control in a bridge call that has taken `taken` bytes from the active stack: the index as
the operand removal left it, every byte of the stacks and of memory as it was, and the call on record (R332). -/
def published (m : Mode) (s : State) (taken : Nat) (call : HostCall) : State :=
  let S := s.stack (activeStack m)
  { s.setStack (activeStack m) { S with idx := BitVec.ofNat 8 (indexAfterTaking m S taken) } with calls := s.calls ++ [call] }

/-- The instruction acts on the host (R336). -/
def callsHost (i : Instr) : Prop := ∃ m, i = Instr.op .dei m ∨ i = Instr.op .deo m

/-- The instruction stores to memory (R56). -/
def storesToMemory (i : Instr) : Prop := ∃ m, i = Instr.op .stz m ∨ i = Instr.op .str m ∨ i = Instr.op .sta m

/-- The same instruction executed `n` times. -/
def execTimes : Nat → Instr → State → Host.Outcome State Fault Refusal
  | 0, _, s => .next s
  | n + 1, i, s =>
    match exec i s with
    | .next t => execTimes n i t
    | .fault r => .fault r
    | .refused r => .refused r

end Sys2Proof.Machine
end

