-- ==== Sys2Proof/WellFormed.lean ====
section
/-!
DEFINITION. Well-formedness. A term of `Instr` cannot be ill-formed: its operands are a byte or a short by type, every one of
the 256 opcodes is defined (R79 of 30_encoding.md), and no operand value of any instruction is reserved
(93_implementation_defined.md, part 1). What can be ill-formed is a byte string meant to be one instruction, or a run of whole
instructions: the checks below.
-/

namespace Sys2Proof

/-- The byte string is exactly one instruction: an opcode byte and as many immediate bytes as it asks for (R70, R77). -/
def wholeInstruction : List Byte → Bool
  | [] => false
  | op :: rest => rest.length + 1 == lengthOfOpcode op

/-- The byte string is a sequence of whole instructions, read from its front: what a straight run of code is. `fuel` bounds
the number of instructions read (a string of `n` bytes holds at most `n`). -/
def wholeInstructions : Nat → List Byte → Bool
  | _, [] => true
  | 0, _ :: _ => false
  | fuel + 1, op :: rest =>
    match decode (op :: rest) with
    | .ok (_, more) => wholeInstructions fuel more
    | .error _ => false

end Sys2Proof
end

