-- ==== Sys2Proof/Certificates/Slice0/Obligations.lean ====
section
/-!
DEFINITION. The statements for the provers. In each, `exec i s` is the instruction in the state whose `pc` is already past its
bytes (R90, R91, R102); `StepRunsTheDecodedInstruction` ties it to a step. A statement about `Instr.op b m` for every mode `m` is
about all eight opcodes of the base operation `b`; its first clause says which bytes they are.
-/

open Sys2Proof Sys2Proof.Machine

/-- INC* takes a of N bytes and pushes (a + 1) mod 2^(8N). For all eight modes (plain, 2, r, 2r, k, 2k, kr, 2kr) and every
state. Nothing else changes: not the other stack, pc, any byte of memory, run frame or host call. (R370) -/
def Obligations.IncPushesSuccessModWidth : Prop :=
  ∀ (m : Mode) (s : State),
    let N := operandBytes m
    let S := s.stack (activeStack m)
    encode (Instr.op .inc m) = [opcodeByte 0x01 m] ∧
    ∃ t, exec (Instr.op .inc m) s = .next t ∧
      OnlyActiveStack m s t N (bytesOf N ((valueFromTop S 0 N + 1) % 2 ^ (8 * N)))

/-- ADD* takes b, then a, of N bytes each, and pushes (a + b) mod 2^(8N). For all eight modes (plain, 2, r, 2r, k, 2k, kr,
2kr) and every state. Nothing else changes: not the other stack, pc, any byte of memory, run frame or host call. (R379) -/
def Obligations.AddPushesSumModWidth : Prop :=
  ∀ (m : Mode) (s : State),
    let N := operandBytes m
    let S := s.stack (activeStack m)
    encode (Instr.op .add m) = [opcodeByte 0x18 m] ∧
    ∃ t, exec (Instr.op .add m) s = .next t ∧
      OnlyActiveStack m s t (2 * N) (bytesOf N ((valueFromTop S N N + valueFromTop S 0 N) % 2 ^ (8 * N)))

/-- SUB* takes b, then a, of N bytes each, and pushes (a - b) mod 2^(8N); no borrow is kept. For all eight modes (plain, 2, r,
2r, k, 2k, kr, 2kr) and every state. Nothing else changes: not the other stack, pc, any byte of memory, run frame or host
call. That the top operand is b and the one beneath it a is the decision D22 of 92_eei_decisions.md, the spec's own (log 17),
not a rule of its source. (R388, R389, R390, R391, R392, R393, R394, R395, R396) -/
def Obligations.SubPushesDifferenceModWidth : Prop :=
  ∀ (m : Mode) (s : State),
    let N := operandBytes m
    let S := s.stack (activeStack m)
    encode (Instr.op .sub m) = [opcodeByte 0x19 m] ∧
    ∃ t, exec (Instr.op .sub m) s = .next t ∧
      OnlyActiveStack m s t (2 * N) (bytesOf N ((valueFromTop S N N + 2 ^ (8 * N) - valueFromTop S 0 N) % 2 ^ (8 * N)))

/-- MUL* takes b, then a, of N bytes each, and pushes (a * b) mod 2^(8N). For all eight modes (plain, 2, r, 2r, k, 2k, kr,
2kr) and every state. Nothing else changes: not the other stack, pc, any byte of memory, run frame or host call. (R397) -/
def Obligations.MulPushesLowHalfOfProduct : Prop :=
  ∀ (m : Mode) (s : State),
    let N := operandBytes m
    let S := s.stack (activeStack m)
    encode (Instr.op .mul m) = [opcodeByte 0x1A m] ∧
    ∃ t, exec (Instr.op .mul m) s = .next t ∧
      OnlyActiveStack m s t (2 * N) (bytesOf N ((valueFromTop S N N * valueFromTop S 0 N) % 2 ^ (8 * N)))

/-- DIV* takes the divisor b, then the dividend a, of N bytes each, and pushes 0 when b is 0 and the truncated quotient a / b
otherwise; it never stops. For all eight modes (plain, 2, r, 2r, k, 2k, kr, 2kr) and every state. Nothing else changes: not
the other stack, pc, any byte of memory, run frame or host call. That the top operand is b and the one beneath it a is the
decision D22 of 92_eei_decisions.md, the spec's own (log 17), not a rule of its source. (R406, R407, R408, R409, R410, R411,
R412, R413, R414) -/
def Obligations.DivPushesQuotientOrZero : Prop :=
  ∀ (m : Mode) (s : State),
    let N := operandBytes m
    let S := s.stack (activeStack m)
    encode (Instr.op .div m) = [opcodeByte 0x1B m] ∧
    ∃ t, exec (Instr.op .div m) s = .next t ∧
      OnlyActiveStack m s t (2 * N) (bytesOf N (if valueFromTop S 0 N = 0 then 0 else valueFromTop S N N / valueFromTop S 0 N))

/-- AND*, ORA* and EOR* take b, then a, of N bytes each, and push a & b, a | b and a ^ b. For all eight modes (plain, 2, r,
2r, k, 2k, kr, 2kr) and every state. Nothing else changes: not the other stack, pc, any byte of memory, run frame or host
call. (R415, R424, R433) -/
def Obligations.BitwiseOperationsPushTheirResult : Prop :=
  ∀ (m : Mode) (s : State),
    let N := operandBytes m
    let S := s.stack (activeStack m)
    let a := valueFromTop S N N
    let b := valueFromTop S 0 N
    (encode (Instr.op .and m) = [opcodeByte 0x1C m] ∧
      ∃ t, exec (Instr.op .and m) s = .next t ∧ OnlyActiveStack m s t (2 * N) (bytesOf N (Nat.land a b))) ∧
    (encode (Instr.op .ora m) = [opcodeByte 0x1D m] ∧
      ∃ t, exec (Instr.op .ora m) s = .next t ∧ OnlyActiveStack m s t (2 * N) (bytesOf N (Nat.lor a b))) ∧
    (encode (Instr.op .eor m) = [opcodeByte 0x1E m] ∧
      ∃ t, exec (Instr.op .eor m) s = .next t ∧ OnlyActiveStack m s t (2 * N) (bytesOf N (Nat.xor a b)))

/-- SFT* takes the shift byte sh, then a of N bytes, and pushes ((a >> sh[3:0]) << sh[7:4]) mod 2^(8N), with logical shifts,
the right one first. For all eight modes (plain, 2, r, 2r, k, 2k, kr, 2kr) and every state. Nothing else changes: not the
other stack, pc, any byte of memory, run frame or host call. That the top operand is b and the one beneath it a is the
decision D22 of 92_eei_decisions.md, the spec's own (log 17), not a rule of its source. (R442, R443, R444, R445, R446, R447,
R448, R449, R450) -/
def Obligations.SftShiftsRightThenLeft : Prop :=
  ∀ (m : Mode) (s : State),
    let N := operandBytes m
    let S := s.stack (activeStack m)
    encode (Instr.op .sft m) = [opcodeByte 0x1F m] ∧
    ∃ t, exec (Instr.op .sft m) s = .next t ∧
      OnlyActiveStack m s t (1 + N) (bytesOf N (valueFromTop S 1 N / 2 ^ (fromTop S 0 % 16) * 2 ^ (fromTop S 0 / 16) % 2 ^ (8 * N)))

/-- POP* takes a value of N bytes and pushes nothing: the index moves down by N, or not at all in keep mode, and no byte is
cleared. For all eight modes (plain, 2, r, 2r, k, 2k, kr, 2kr) and every state. Nothing else changes: not the other stack, pc,
any byte of memory, run frame or host call. (R130) -/
def Obligations.PopRemovesTheTopValue : Prop :=
  ∀ (m : Mode) (s : State),
    encode (Instr.op .pop m) = [opcodeByte 0x02 m] ∧
    ∃ t, exec (Instr.op .pop m) s = .next t ∧
      OnlyActiveStack m s t (operandBytes m) []

/-- NIP* takes b, then a, of N bytes each, and pushes b. For all eight modes (plain, 2, r, 2r, k, 2k, kr, 2kr) and every
state. Nothing else changes: not the other stack, pc, any byte of memory, run frame or host call. (R139) -/
def Obligations.NipDiscardsTheSecondValue : Prop :=
  ∀ (m : Mode) (s : State),
    let N := operandBytes m
    let S := s.stack (activeStack m)
    encode (Instr.op .nip m) = [opcodeByte 0x03 m] ∧
    ∃ t, exec (Instr.op .nip m) s = .next t ∧
      OnlyActiveStack m s t (2 * N) (bytesOf N (valueFromTop S 0 N))

/-- SWP* takes b, then a, of N bytes each, and pushes b, then a. For all eight modes (plain, 2, r, 2r, k, 2k, kr, 2kr) and
every state. Nothing else changes: not the other stack, pc, any byte of memory, run frame or host call. (R148) -/
def Obligations.SwpExchangesTheTopTwoValues : Prop :=
  ∀ (m : Mode) (s : State),
    let N := operandBytes m
    let S := s.stack (activeStack m)
    encode (Instr.op .swp m) = [opcodeByte 0x04 m] ∧
    ∃ t, exec (Instr.op .swp m) s = .next t ∧
      OnlyActiveStack m s t (2 * N) (bytesOf N (valueFromTop S 0 N) ++ bytesOf N (valueFromTop S N N))

/-- ROT* takes c, b and a, of N bytes each, and pushes b, c, a, every operand being read before any byte is written. For all
eight modes (plain, 2, r, 2r, k, 2k, kr, 2kr) and every state. Nothing else changes: not the other stack, pc, any byte of
memory, run frame or host call. (R157) -/
def Obligations.RotBringsTheThirdValueToTheTop : Prop :=
  ∀ (m : Mode) (s : State),
    let N := operandBytes m
    let S := s.stack (activeStack m)
    encode (Instr.op .rot m) = [opcodeByte 0x05 m] ∧
    ∃ t, exec (Instr.op .rot m) s = .next t ∧
      OnlyActiveStack m s t (3 * N) (bytesOf N (valueFromTop S N N) ++ bytesOf N (valueFromTop S 0 N) ++ bytesOf N (valueFromTop S (2 * N) N))

/-- DUP* takes a of N bytes and pushes a, then a; DUP2k so grows the stack by two shorts (90_conflicts.md C16, log 17). For
all eight modes (plain, 2, r, 2r, k, 2k, kr, 2kr) and every state. Nothing else changes: not the other stack, pc, any byte of
memory, run frame or host call. (R166, R167, R168, R169, R170, R171, R172, R173, R174) -/
def Obligations.DupPushesTheTopValueTwice : Prop :=
  ∀ (m : Mode) (s : State),
    let N := operandBytes m
    let S := s.stack (activeStack m)
    encode (Instr.op .dup m) = [opcodeByte 0x06 m] ∧
    ∃ t, exec (Instr.op .dup m) s = .next t ∧
      OnlyActiveStack m s t N (bytesOf N (valueFromTop S 0 N) ++ bytesOf N (valueFromTop S 0 N))

/-- OVR* takes b, then a, of N bytes each, and pushes a, b, a. For all eight modes (plain, 2, r, 2r, k, 2k, kr, 2kr) and every
state. Nothing else changes: not the other stack, pc, any byte of memory, run frame or host call. (R175) -/
def Obligations.OvrCopiesTheSecondValueOverTheTop : Prop :=
  ∀ (m : Mode) (s : State),
    let N := operandBytes m
    let S := s.stack (activeStack m)
    encode (Instr.op .ovr m) = [opcodeByte 0x07 m] ∧
    ∃ t, exec (Instr.op .ovr m) s = .next t ∧
      OnlyActiveStack m s t (2 * N) (bytesOf N (valueFromTop S N N) ++ bytesOf N (valueFromTop S 0 N) ++ bytesOf N (valueFromTop S N N))

/-- STH* takes a of N bytes from the active stack and pushes it on the other stack, in its byte order; the push is not
suppressed in keep mode. For all eight modes (plain, 2, r, 2r, k, 2k, kr, 2kr) and every state. pc, memory, run frames and
host calls stay as they were. The stack of the cross-stack push is the decision D5 of 92_eei_decisions.md, the spec's own (log
17). (R184, R185, R186, R187, R188, R189, R190, R191, R192, R100) -/
def Obligations.SthMovesTheTopValueToTheOtherStack : Prop :=
  ∀ (m : Mode) (s : State),
    let N := operandBytes m
    let S := s.stack (activeStack m)
    encode (Instr.op .sth m) = [opcodeByte 0x0F m] ∧
    ∃ t, exec (Instr.op .sth m) s = .next t ∧
      StackBecomes S (t.stack (activeStack m)) (indexAfterTaking m S N) [] ∧
      StackBecomes (s.stack (otherStack m)) (t.stack (otherStack m)) (s.stack (otherStack m)).idx.toNat
        (bytesOf N (valueFromTop S 0 N)) ∧
      t.pc = s.pc ∧ MemoryKept s t ∧ RestKept s t

/-- EQU* and NEQ* take b, then a, of N bytes each, and push one byte: 1 when a = b (EQU) or a is not b (NEQ), and 0 otherwise,
in short mode too. For all eight modes (plain, 2, r, 2r, k, 2k, kr, 2kr) and every state. Nothing else changes: not the other
stack, pc, any byte of memory, run frame or host call. (R200, R209) -/
def Obligations.EquNeqPushOneFlagByte : Prop :=
  ∀ (m : Mode) (s : State),
    let N := operandBytes m
    let S := s.stack (activeStack m)
    let a := valueFromTop S N N
    let b := valueFromTop S 0 N
    (encode (Instr.op .equ m) = [opcodeByte 0x08 m] ∧
      ∃ t, exec (Instr.op .equ m) s = .next t ∧ OnlyActiveStack m s t (2 * N) [if a = b then 1 else 0]) ∧
    (encode (Instr.op .neq m) = [opcodeByte 0x09 m] ∧
      ∃ t, exec (Instr.op .neq m) s = .next t ∧ OnlyActiveStack m s t (2 * N) [if a ≠ b then 1 else 0])

/-- GTH* and LTH* take b, then a, of N bytes each, and push one byte: 1 when a > b (GTH) or a < b (LTH) as unsigned numbers,
and 0 otherwise. For all eight modes (plain, 2, r, 2r, k, 2k, kr, 2kr) and every state. Nothing else changes: not the other
stack, pc, any byte of memory, run frame or host call. That the top operand is b and the one beneath it a is the decision D22
of 92_eei_decisions.md, the spec's own (log 17), not a rule of its source. (R218, R219, R220, R223, R227, R228, R229, R232) -/
def Obligations.GthLthCompareUnsigned : Prop :=
  ∀ (m : Mode) (s : State),
    let N := operandBytes m
    let S := s.stack (activeStack m)
    let a := valueFromTop S N N
    let b := valueFromTop S 0 N
    (encode (Instr.op .gth m) = [opcodeByte 0x0A m] ∧
      ∃ t, exec (Instr.op .gth m) s = .next t ∧ OnlyActiveStack m s t (2 * N) [if a > b then 1 else 0]) ∧
    (encode (Instr.op .lth m) = [opcodeByte 0x0B m] ∧
      ∃ t, exec (Instr.op .lth m) s = .next t ∧ OnlyActiveStack m s t (2 * N) [if a < b then 1 else 0])

/-- JMP* takes its target of N bytes and sets pc: to pc plus the signed byte mod 2^16 when N = 1, to the short itself when N =
2; pc before it is the address after the opcode byte. For all eight modes (plain, 2, r, 2r, k, 2k, kr, 2kr) and every state.
The other stack, memory, run frames and host calls stay as they were. That a short target is absolute is the resolution C1 of
90_conflicts.md (log 17). (R240, R241, R242, R243, R244, R245, R246, R247, R248, R102) -/
def Obligations.JmpSetsPcToItsTarget : Prop :=
  ∀ (m : Mode) (s : State),
    let N := operandBytes m
    let S := s.stack (activeStack m)
    encode (Instr.op .jmp m) = [opcodeByte 0x0C m] ∧
    ∃ t, exec (Instr.op .jmp m) s = .next t ∧
      t.pc.toNat = jumpTargetAt s.pc N (valueFromTop S 0 N) ∧
      StackBecomes S (t.stack (activeStack m)) (indexAfterTaking m S N) [] ∧
      t.stack (otherStack m) = s.stack (otherStack m) ∧ MemoryKept s t ∧ RestKept s t

/-- JCN* takes its target of N bytes and then one condition byte, in every case, and sets pc to the target as JMP* does when
the condition is not 0; otherwise pc stays the address after the opcode byte. For all eight modes (plain, 2, r, 2r, k, 2k, kr,
2kr) and every state. The other stack, memory, run frames and host calls stay as they were. That a short target is absolute is
the resolution C1 of 90_conflicts.md (log 17). (R249, R250, R251, R252, R253, R254, R255, R256, R257, R102) -/
def Obligations.JcnJumpsWhenItsConditionByteIsNotZero : Prop :=
  ∀ (m : Mode) (s : State),
    let N := operandBytes m
    let S := s.stack (activeStack m)
    encode (Instr.op .jcn m) = [opcodeByte 0x0D m] ∧
    ∃ t, exec (Instr.op .jcn m) s = .next t ∧
      t.pc.toNat = (if fromTop S N = 0 then s.pc.toNat else jumpTargetAt s.pc N (valueFromTop S 0 N)) ∧
      StackBecomes S (t.stack (activeStack m)) (indexAfterTaking m S (N + 1)) [] ∧
      t.stack (otherStack m) = s.stack (otherStack m) ∧ MemoryKept s t ∧ RestKept s t

/-- JSR* takes its target of N bytes, pushes pc (the address after the opcode byte) as a short on the other stack, in keep
mode too, and sets pc as JMP* does. For all eight modes (plain, 2, r, 2r, k, 2k, kr, 2kr) and every state. Memory, run frames
and host calls stay as they were. The stack of the cross-stack push is the decision D5 of 92_eei_decisions.md, the spec's own
(log 17). That a short target is absolute is the resolution C1 of 90_conflicts.md (log 17). (R258, R259, R260, R261, R262,
R263, R264, R265, R266, R100, R102) -/
def Obligations.JsrPushesTheReturnAddressAndJumps : Prop :=
  ∀ (m : Mode) (s : State),
    let N := operandBytes m
    let S := s.stack (activeStack m)
    encode (Instr.op .jsr m) = [opcodeByte 0x0E m] ∧
    ∃ t, exec (Instr.op .jsr m) s = .next t ∧
      t.pc.toNat = jumpTargetAt s.pc N (valueFromTop S 0 N) ∧
      StackBecomes S (t.stack (activeStack m)) (indexAfterTaking m S N) [] ∧
      StackBecomes (s.stack (otherStack m)) (t.stack (otherStack m)) (s.stack (otherStack m)).idx.toNat
        (bytesOf 2 s.pc.toNat) ∧
      MemoryKept s t ∧ RestKept s t

/-- LDZ* takes a one-byte address and pushes the value of N bytes at it, the second byte at the address plus one mod 2^16 (not
mod 2^8). For all eight modes (plain, 2, r, 2r, k, 2k, kr, 2kr) and every state. Nothing else changes: not the other stack,
pc, any byte of memory, run frame or host call. (R270) -/
def Obligations.LdzPushesTheZeroPageValue : Prop :=
  ∀ (m : Mode) (s : State),
    let N := operandBytes m
    let S := s.stack (activeStack m)
    encode (Instr.op .ldz m) = [opcodeByte 0x10 m] ∧
    ∃ t, exec (Instr.op .ldz m) s = .next t ∧
      OnlyActiveStack m s t 1 (bytesOf N (valueAt s (fromTop S 0) N))

/-- LDR* takes a signed one-byte offset, in both widths, and pushes the value of N bytes at (pc + offset) mod 2^16, where pc
is the address after the opcode byte. For all eight modes (plain, 2, r, 2r, k, 2k, kr, 2kr) and every state. Nothing else
changes: not the other stack, pc, any byte of memory, run frame or host call. That the offset is one signed byte in short mode
too is the resolution C14 of 90_conflicts.md (log 17). (R288, R289, R290, R291, R292, R293, R294, R295, R296) -/
def Obligations.LdrPushesTheValueRelativeToPc : Prop :=
  ∀ (m : Mode) (s : State),
    let N := operandBytes m
    let S := s.stack (activeStack m)
    encode (Instr.op .ldr m) = [opcodeByte 0x12 m] ∧
    ∃ t, exec (Instr.op .ldr m) s = .next t ∧
      OnlyActiveStack m s t 1 (bytesOf N (valueAt s (relativeTarget s.pc (fromTop S 0)) N))

/-- LDA* takes a short address, in both widths, and pushes the value of N bytes at it. For all eight modes (plain, 2, r, 2r,
k, 2k, kr, 2kr) and every state. Nothing else changes: not the other stack, pc, any byte of memory, run frame or host call.
(R306) -/
def Obligations.LdaPushesTheValueAtAnAbsoluteAddress : Prop :=
  ∀ (m : Mode) (s : State),
    let N := operandBytes m
    let S := s.stack (activeStack m)
    encode (Instr.op .lda m) = [opcodeByte 0x14 m] ∧
    ∃ t, exec (Instr.op .lda m) s = .next t ∧
      OnlyActiveStack m s t 2 (bytesOf N (valueAt s (valueFromTop S 0 2) N))

/-- STZ* takes a one-byte address and then a value of N bytes and writes the value at the address, high byte first, the second
byte at the address plus one mod 2^16. For all eight modes (plain, 2, r, 2r, k, 2k, kr, 2kr) and every state. Every other byte
of memory reads as before; no byte of either stack, the other stack's index, pc, run frame or host call changes. That the
address or port is on top and the value beneath it is the decision D4 of 92_eei_decisions.md, the spec's own (log 17). (R279,
R280, R281, R282, R283, R284, R285, R286, R287) -/
def Obligations.StzStoresToTheZeroPage : Prop :=
  ∀ (m : Mode) (s : State),
    let N := operandBytes m
    let S := s.stack (activeStack m)
    encode (Instr.op .stz m) = [opcodeByte 0x11 m] ∧
    ∃ t, exec (Instr.op .stz m) s = .next t ∧
      (zeroPageAddr (take1 m (beginTake m s)).1).toNat = fromTop S 0 ∧
      MemoryBecomes s t (zeroPageAddr (take1 m (beginTake m s)).1).toNat (bytesOf N (valueFromTop S 1 N)) ∧
      StackBecomes S (t.stack (activeStack m)) (indexAfterTaking m S (1 + N)) [] ∧
      t.stack (otherStack m) = s.stack (otherStack m) ∧ t.pc = s.pc ∧ RestKept s t

/-- STR* takes a signed one-byte offset and then a value of N bytes and writes the value at (pc + offset) mod 2^16, high byte
first, where pc is the address after the opcode byte. For all eight modes (plain, 2, r, 2r, k, 2k, kr, 2kr) and every state.
Every other byte of memory reads as before; no byte of either stack, the other stack's index, pc, run frame or host call
changes. That the address or port is on top and the value beneath it is the decision D4 of 92_eei_decisions.md, the spec's own
(log 17). That the offset is one signed byte in short mode too is the resolution C14 of 90_conflicts.md (log 17). (R297, R298,
R299, R300, R301, R302, R303, R304, R305) -/
def Obligations.StrStoresRelativeToPc : Prop :=
  ∀ (m : Mode) (s : State),
    let N := operandBytes m
    let S := s.stack (activeStack m)
    encode (Instr.op .str m) = [opcodeByte 0x13 m] ∧
    ∃ t, exec (Instr.op .str m) s = .next t ∧
      (relativeAddr s.pc (take1 m (beginTake m s)).1).toNat = relativeTarget s.pc (fromTop S 0) ∧
      MemoryBecomes s t (relativeAddr s.pc (take1 m (beginTake m s)).1).toNat (bytesOf N (valueFromTop S 1 N)) ∧
      StackBecomes S (t.stack (activeStack m)) (indexAfterTaking m S (1 + N)) [] ∧
      t.stack (otherStack m) = s.stack (otherStack m) ∧ t.pc = s.pc ∧ RestKept s t

/-- STA* takes a short address and then a value of N bytes and writes the value at the address, high byte first; any address
may be written. For all eight modes (plain, 2, r, 2r, k, 2k, kr, 2kr) and every state. Every other byte of memory reads as
before; no byte of either stack, the other stack's index, pc, run frame or host call changes. That the address or port is on
top and the value beneath it is the decision D4 of 92_eei_decisions.md, the spec's own (log 17). (R315, R316, R317, R318,
R319, R320, R321, R322, R323) -/
def Obligations.StaStoresAtAnAbsoluteAddress : Prop :=
  ∀ (m : Mode) (s : State),
    let N := operandBytes m
    let S := s.stack (activeStack m)
    encode (Instr.op .sta m) = [opcodeByte 0x15 m] ∧
    ∃ t, exec (Instr.op .sta m) s = .next t ∧
      ((take2 m (beginTake m s)).1).toNat = valueFromTop S 0 2 ∧
      MemoryBecomes s t ((take2 m (beginTake m s)).1).toNat (bytesOf N (valueFromTop S 2 N)) ∧
      StackBecomes S (t.stack (activeStack m)) (indexAfterTaking m S (2 + N)) [] ∧
      t.stack (otherStack m) = s.stack (otherStack m) ∧ t.pc = s.pc ∧ RestKept s t

/-- DEI* takes a port byte, makes one call dei(port, wide) with the indices published, and, when the host returns within its
turn, pushes the N low bytes of the value at the index as the host left it; pc and the run frames are as before, and memory
and the stacks are as the host left them. The width of the value is the decision D12 of 92_eei_decisions.md, the spec's own
(log 15). (R340, R341, R342, R343, R344, R345, R346, R347, R348, R330, R332, R336) -/
def Obligations.DeiPushesTheHostsValue : Prop :=
  ∀ (m : Mode) (s : State) (edits : List HostEdit) (value : Short) (c : Bool),
    (takeTurn s).1 = { edits := edits, act := .finish value c } →
    let N := operandBytes m
    let S := s.stack (activeStack m)
    let call := HostCall.dei (BitVec.ofNat 8 (fromTop S 0)) m.short
    let h := applyEdits (published m s 1 call) edits
    encode (Instr.op .dei m) = [opcodeByte 0x16 m] ∧
    ∃ t, exec (Instr.op .dei m) s = .next t ∧
      StackBecomes (h.stack (activeStack m)) (t.stack (activeStack m)) (h.stack (activeStack m)).idx.toNat
        (bytesOf N value.toNat) ∧
      t.stack (otherStack m) = h.stack (otherStack m) ∧ (∀ a : Addr, t.readByte a = h.readByte a) ∧
      t.calls = s.calls ++ [call] ∧ t.pc = s.pc ∧ t.phase = .running ∧ t.suspended = s.suspended ∧ t.result = s.result ∧
      t.script = (takeTurn s).2.script ∧ t.clock = (takeTurn s).2.clock ∧ t.deoHaltHonoured = s.deoHaltHonoured

/-- DEO* takes a port byte and then a value of N bytes and makes one call deo(port, value, wide), a byte value zero-extended.
When the host returns within its turn the run goes on with its pc, unless the signal is false and deo_halt_honoured is set:
then the run ends and returns pc. Memory and the stacks are as the host left them. That the address or port is on top and the
value beneath it is the decision D4 of 92_eei_decisions.md, the spec's own (log 17). Width and signal: D12 and D7 (log 15, log
6). Where the run has ended no pc is held (R41), and that the pc field then keeps its value is the model's choice (log 13).
(R349, R350, R351, R352, R353, R354, R355, R356, R357, R331, R333, R336) -/
def Obligations.DeoHandsItsValueToTheHost : Prop :=
  ∀ (m : Mode) (s : State) (edits : List HostEdit) (value : Short) (c : Bool),
    (takeTurn s).1 = { edits := edits, act := .finish value c } →
    let N := operandBytes m
    let S := s.stack (activeStack m)
    let call := HostCall.deo (BitVec.ofNat 8 (fromTop S 0)) (BitVec.ofNat 16 (valueFromTop S 1 N)) m.short
    let h := applyEdits (published m s (1 + N) call) edits
    encode (Instr.op .deo m) = [opcodeByte 0x17 m] ∧
    ∃ t, exec (Instr.op .deo m) s = .next t ∧
      (∀ k : StackId, t.stack k = h.stack k) ∧ (∀ a : Addr, t.readByte a = h.readByte a) ∧
      t.calls = s.calls ++ [call] ∧ t.pc = s.pc ∧ t.suspended = s.suspended ∧
      (if s.deoHaltHonoured = true ∧ c = false then t.phase = .hosting ∧ t.result = some s.pc
        else t.phase = .running ∧ t.result = s.result) ∧
      t.script = (takeTurn s).2.script ∧ t.clock = (takeTurn s).2.clock ∧ t.deoHaltHonoured = s.deoHaltHonoured

/-- When the host's turn inside a DEI* or DEO* calls run(vm, vector), a nested run starts at vector on the published state as
the host left it, and the outer run is suspended with its own pc and its transaction; when the call never returns, or nested
runs exhaust the host's stack, the run is suspended likewise, the machine is stuck in the transaction, and there is no next
step. That stuck is a phase in which the step is refused is the model's way of writing R475's "no step" (log 10). The split of
the instruction over steps is log 7. That the address or port is on top and the value beneath it is the decision D4 of
92_eei_decisions.md, the spec's own (log 17). That a byte value of DEO* is zero-extended is the decision D12, the spec's own
(log 15). (R40, R107, R330, R331, R332, R335, R337, R340, R349, R464, R475) -/
def Obligations.BridgeCallSuspendsItsRunUntilTheHostReturns : Prop :=
  ∀ (m : Mode) (s : State) (edits : List HostEdit),
    let S := s.stack (activeStack m)
    let port := BitVec.ofNat 8 (fromTop S 0)
    let value := BitVec.ofNat 16 (valueFromTop S 1 (operandBytes m))
    let dei := Transaction.dei port m.short (activeStack m)
    let deo := Transaction.deo port value m.short
    let hi := applyEdits (published m s 1 dei.call) edits
    let ho := applyEdits (published m s (1 + operandBytes m) deo.call) edits
    (∀ vector : Addr, (takeTurn s).1 = { edits := edits, act := .run vector } →
      (∃ t, exec (Instr.op .dei m) s = .next t ∧ t.pc = vector ∧ t.phase = .running ∧
        t.suspended = { pc := s.pc, transaction := dei } :: s.suspended ∧ t.calls = s.calls ++ [dei.call] ∧
        (∀ k : StackId, t.stack k = hi.stack k) ∧ (∀ a : Addr, t.readByte a = hi.readByte a) ∧ t.result = s.result) ∧
      (∃ t, exec (Instr.op .deo m) s = .next t ∧ t.pc = vector ∧ t.phase = .running ∧
        t.suspended = { pc := s.pc, transaction := deo } :: s.suspended ∧ t.calls = s.calls ++ [deo.call] ∧
        (∀ k : StackId, t.stack k = ho.stack k) ∧ (∀ a : Addr, t.readByte a = ho.readByte a) ∧ t.result = s.result)) ∧
    (∀ why : Stuck, (takeTurn s).1 = { edits := edits, act := .stuck why } →
      (∃ t, exec (Instr.op .dei m) s = .next t ∧ t.phase = .stuck why ∧ step t = .refused (.stuck why) ∧
        t.suspended = { pc := s.pc, transaction := dei } :: s.suspended ∧ t.calls = s.calls ++ [dei.call] ∧
        (∀ k : StackId, t.stack k = hi.stack k) ∧ (∀ a : Addr, t.readByte a = hi.readByte a) ∧ t.result = s.result) ∧
      (∃ t, exec (Instr.op .deo m) s = .next t ∧ t.phase = .stuck why ∧ step t = .refused (.stuck why) ∧
        t.suspended = { pc := s.pc, transaction := deo } :: s.suspended ∧ t.calls = s.calls ++ [deo.call] ∧
        (∀ k : StackId, t.stack k = ho.stack k) ∧ (∀ a : Addr, t.readByte a = ho.readByte a) ∧ t.result = s.result))

/-- BRK ends the run that executes it: pc, the address after the BRK byte, goes to the caller, and the host has the machine;
the stacks, memory and every suspended run stay as they were. (R104, R107, R120, R466) -/
def Obligations.BrkEndsTheInnermostRun : Prop :=
  ∀ s : State, encode .brk = [0x00] ∧
    ∃ t, exec .brk s = .next t ∧ t.phase = .hosting ∧ t.result = some s.pc ∧ t.suspended = s.suspended ∧
      (∀ k : StackId, t.stack k = s.stack k) ∧ MemoryKept s t ∧ t.deoHaltHonoured = s.deoHaltHonoured ∧ t.calls = s.calls ∧
      t.script = s.script ∧ t.clock = s.clock

/-- JCI pops a condition byte from the working stack whether or not it jumps; when it is not 0, pc becomes pc plus the
immediate mod 2^16, where pc is the opcode address plus three. The other stack, memory, run frames and host calls stay as they
were. The stack is the decision D6 of 92_eei_decisions.md, the spec's own (log 17). (R121, R75, R102) -/
def Obligations.JciPopsItsConditionAndJumpsWhenNotZero : Prop :=
  ∀ (imm : Short) (s : State), encode (.jci imm) = [0x20, hiByte imm, loByte imm] ∧
    ∃ t, exec (.jci imm) s = .next t ∧
      t.pc.toNat = (if fromTop s.wst 0 = 0 then s.pc.toNat else (s.pc.toNat + imm.toNat) % 65536) ∧
      StackBecomes s.wst t.wst ((s.wst.idx.toNat + 255) % 256) [] ∧ t.rst = s.rst ∧ MemoryKept s t ∧ RestKept s t

/-- JMI sets pc to pc plus the immediate mod 2^16, where pc is the address after the three bytes of the instruction; no stack,
byte of memory, run frame or host call changes. (R122) -/
def Obligations.JmiAddsItsImmediateToPc : Prop :=
  ∀ (imm : Short) (s : State), encode (.jmi imm) = [0x40, hiByte imm, loByte imm] ∧
    ∃ t, exec (.jmi imm) s = .next t ∧ t.pc.toNat = (s.pc.toNat + imm.toNat) % 65536 ∧
      (∀ k : StackId, t.stack k = s.stack k) ∧ MemoryKept s t ∧ RestKept s t

/-- JSI pushes pc, the address after the three bytes of the instruction, as a big-endian short on the return stack, and sets
pc to pc plus the immediate mod 2^16; the working stack, memory, run frames and host calls stay as they were. (R123) -/
def Obligations.JsiPushesTheReturnAddressOnTheReturnStack : Prop :=
  ∀ (imm : Short) (s : State), encode (.jsi imm) = [0x60, hiByte imm, loByte imm] ∧
    ∃ t, exec (.jsi imm) s = .next t ∧ t.pc.toNat = (s.pc.toNat + imm.toNat) % 65536 ∧
      StackBecomes s.rst t.rst s.rst.idx.toNat (bytesOf 2 s.pc.toNat) ∧ t.wst = s.wst ∧ MemoryKept s t ∧ RestKept s t

/-- LIT pushes its immediate byte and LIT2 its immediate short, big-endian, on the working stack; the return stack, pc
(already past the immediate), memory, run frames and host calls stay as they were. The stack is the decision D6 of
92_eei_decisions.md, the spec's own (log 17). (R124, R125, R75) -/
def Obligations.LitPushesItsImmediateOnTheWorkingStack : Prop :=
  ∀ (b : Byte) (v : Short) (s : State),
    encode (.lit b) = [0x80, b] ∧ encode (.lit2 v) = [0xA0, hiByte v, loByte v] ∧
    (∃ t, exec (.lit b) s = .next t ∧ StackBecomes s.wst t.wst s.wst.idx.toNat [b.toNat] ∧ t.rst = s.rst ∧ t.pc = s.pc ∧
      MemoryKept s t ∧ RestKept s t) ∧
    (∃ t, exec (.lit2 v) s = .next t ∧ StackBecomes s.wst t.wst s.wst.idx.toNat (bytesOf 2 v.toNat) ∧ t.rst = s.rst ∧
      t.pc = s.pc ∧ MemoryKept s t ∧ RestKept s t)

/-- LITr pushes its immediate byte and LIT2r its immediate short, big-endian, on the return stack; the working stack, pc
(already past the immediate), memory, run frames and host calls stay as they were. The stack is the decision D6 of
92_eei_decisions.md, the spec's own (log 17). (R126, R127, R75) -/
def Obligations.LitrPushesItsImmediateOnTheReturnStack : Prop :=
  ∀ (b : Byte) (v : Short) (s : State),
    encode (.litr b) = [0xC0, b] ∧ encode (.lit2r v) = [0xE0, hiByte v, loByte v] ∧
    (∃ t, exec (.litr b) s = .next t ∧ StackBecomes s.rst t.rst s.rst.idx.toNat [b.toNat] ∧ t.wst = s.wst ∧ t.pc = s.pc ∧
      MemoryKept s t ∧ RestKept s t) ∧
    (∃ t, exec (.lit2r v) s = .next t ∧ StackBecomes s.rst t.rst s.rst.idx.toNat (bytesOf 2 v.toNat) ∧ t.wst = s.wst ∧
      t.pc = s.pc ∧ MemoryKept s t ∧ RestKept s t)

/-- When the host has the machine inside a DEI* call and finishes, the innermost suspended run goes on with the pc it had, and
the value is pushed on the instruction's stack at the index as the host and its nested runs left it, all 16 bits when the call
is wide and the low 8 otherwise; the outer suspended runs stay as they were. That the instruction is finished in a later step
than the one that made its call is log 7. The width is the decision D12 of 92_eei_decisions.md, the spec's own (log 15). (R40,
R107, R330, R332, R335, R340, R466) -/
def Obligations.HostReturnCompletesASuspendedDei : Prop :=
  ∀ (s : State) (pc : Addr) (port : Byte) (wide : Bool) (target : StackId) (rest : List Suspended) (edits : List HostEdit)
      (value : Short) (c : Bool),
    s.phase = .hosting → s.suspended = { pc := pc, transaction := .dei port wide target } :: rest →
    (takeTurn s).1 = { edits := edits, act := .finish value c } →
    let h := applyEdits s edits
    ∃ t, step s = .next t ∧
      StackBecomes (h.stack target) (t.stack target) (h.stack target).idx.toNat
        (bytesOf (if wide then 2 else 1) value.toNat) ∧
      (∀ k : StackId, k ≠ target → t.stack k = h.stack k) ∧ (∀ a : Addr, t.readByte a = h.readByte a) ∧
      t.pc = pc ∧ t.phase = .running ∧ t.suspended = rest ∧ t.result = s.result ∧ t.calls = s.calls ∧
      t.script = (takeTurn s).2.script ∧ t.clock = (takeTurn s).2.clock ∧ t.deoHaltHonoured = s.deoHaltHonoured

/-- When the host has the machine inside a DEO* call and finishes, the innermost suspended run goes on with the pc it had, or,
when deo_halt_honoured is set and the signal is false, ends and returns that pc; the outer suspended runs stay as they were.
That the instruction is finished in a later step than the one that made its call is log 7. The end of the run on an honoured
false signal, and the pc it returns, are the decision D7 of 92_eei_decisions.md, the spec's own (log 6). Where the run has
ended no pc is held (R41), and that the pc field then keeps its value is the model's choice (log 13). (R40, R41, R107, R331,
R332, R333, R335, R465) -/
def Obligations.HostReturnCompletesASuspendedDeo : Prop :=
  ∀ (s : State) (pc : Addr) (port : Byte) (sent : Short) (wide : Bool) (rest : List Suspended) (edits : List HostEdit)
      (value : Short) (c : Bool),
    s.phase = .hosting → s.suspended = { pc := pc, transaction := .deo port sent wide } :: rest →
    (takeTurn s).1 = { edits := edits, act := .finish value c } →
    let h := applyEdits s edits
    ∃ t, step s = .next t ∧
      (∀ k : StackId, t.stack k = h.stack k) ∧ (∀ a : Addr, t.readByte a = h.readByte a) ∧
      t.pc = pc ∧ t.suspended = rest ∧ t.calls = s.calls ∧
      (if s.deoHaltHonoured = true ∧ c = false then t.phase = .hosting ∧ t.result = some pc
        else t.phase = .running ∧ t.result = s.result) ∧ t.script = (takeTurn s).2.script ∧ t.clock = (takeTurn s).2.clock ∧
          t.deoHaltHonoured = s.deoHaltHonoured

/-- When the host calls run(vm, v), idle or nested, pc becomes v in a new run frame; memory, both stacks and both indices are
as the host left them, and every suspended run keeps its frame. (R103, R463, R464, R494) -/
def Obligations.VectorDeliverySavesNothing : Prop :=
  ∀ (s : State) (edits : List HostEdit) (vector : Addr),
    s.phase = .hosting → (takeTurn s).1 = { edits := edits, act := .run vector } →
    let h := applyEdits s edits
    ∃ t, step s = .next t ∧ t.pc = vector ∧ t.phase = .running ∧ t.suspended = s.suspended ∧
      (∀ k : StackId, t.stack k = h.stack k) ∧ (∀ a : Addr, t.readByte a = h.readByte a) ∧ t.result = s.result ∧
      t.calls = s.calls ∧ t.script = (takeTurn s).2.script ∧ t.clock = (takeTurn s).2.clock ∧
      t.deoHaltHonoured = s.deoHaltHonoured

/-- A core whose host does not call run while it is idle, or never comes back from a bridge call, executes nothing: memory,
stacks and indices change only as the host writes them, and no run frame changes. The idle core stays idle; inside a bridge
call the machine is stuck, for the reason given, and has no next step. That stuck is a phase in which the step is refused is
the model's way of writing R475's "no step" (log 10). That the host leaving the core idle is a step of the machine is the
model's choice (log 11). No pc is held while no run executes (R41), and that the pc field keeps its value is the model's
choice (log 13). (R41, R337, R463, R474, R475) -/
def Obligations.CoreExecutesNothingUntilTheHostActs : Prop :=
  ∀ (s : State), s.phase = .hosting →
    ((s.suspended = [] ∧ ∀ vector, (takeTurn s).1.act ≠ .run vector) ∨ ∃ why, (takeTurn s).1.act = .stuck why) →
    let h := applyEdits s (takeTurn s).1.edits
    ∃ t, step s = .next t ∧
      (if s.suspended = [] then t.phase = .hosting
        else ∃ why, (takeTurn s).1.act = .stuck why ∧ t.phase = .stuck why ∧ step t = .refused (.stuck why)) ∧
      t.suspended = s.suspended ∧ (∀ k : StackId, t.stack k = h.stack k) ∧
      (∀ a : Addr, t.readByte a = h.readByte a) ∧ t.pc = s.pc ∧ t.result = s.result ∧ t.calls = s.calls ∧
        t.script = (takeTurn s).2.script ∧ t.clock = (takeTurn s).2.clock ∧ t.deoHaltHonoured = s.deoHaltHonoured

/-- Each of the host's three kinds of write changes exactly the memory byte, the stack byte or the stack index it names.
(R334, R337) -/
def Obligations.HostEditsWriteExactlyTheirTarget : Prop :=
  ∀ (s : State) (addr : Addr) (k : StackId) (slot v : Byte),
    ((∀ a : Addr, (applyEdit s (.mem addr v)).readByte a = if a = addr then v else s.readByte a) ∧
      ∀ j : StackId, (applyEdit s (.mem addr v)).stack j = s.stack j) ∧
    ((∀ i : Nat, slotAt ((applyEdit s (.data k slot v)).stack k) i =
        if i % 256 = slot.toNat then v.toNat else slotAt (s.stack k) i) ∧
      ((applyEdit s (.data k slot v)).stack k).idx = (s.stack k).idx ∧
      (∀ j : StackId, j ≠ k → (applyEdit s (.data k slot v)).stack j = s.stack j) ∧
        MemoryKept s (applyEdit s (.data k slot v))) ∧
    (((applyEdit s (.index k v)).stack k).idx = v ∧
      (∀ i : Nat, slotAt ((applyEdit s (.index k v)).stack k) i = slotAt (s.stack k) i) ∧
      (∀ j : StackId, j ≠ k → (applyEdit s (.index k v)).stack j = s.stack j) ∧ MemoryKept s (applyEdit s (.index k v)))

/-- At reset both stack indices are 0xFF (the decision D1 of 92_eei_decisions.md, the spec's own, log 1) and no run is active;
from any created session, whatever its memory and stack bytes, the first step is the boot call run(vm, 0x0100), which changes
nothing but pc and the run frame (log 4). That deoHaltHonoured is false at reset is the default of the parameter of R7 and
R333, D7 (log 6); that no result is held is the model's choice (log 12). (R7, R41, R333, R490, R491) -/
def Obligations.ResetIsIdleAndTheBootCallRunsAt0100 : Prop :=
  (State.reset.wst.idx = 0xFF ∧ State.reset.rst.idx = 0xFF ∧ State.reset.runFrames = [] ∧ State.reset.result = none ∧
      State.reset.deoHaltHonoured = false ∧ State.reset.phase = .created) ∧
    ∀ s : State, s.phase = .created →
      ∃ t, step s = .next t ∧ t.pc = 0x0100 ∧ t.phase = .running ∧ (∀ k : StackId, t.stack k = s.stack k) ∧ MemoryKept s t ∧
        t.suspended = s.suspended ∧ t.result = s.result ∧ t.deoHaltHonoured = s.deoHaltHonoured ∧ t.calls = s.calls ∧
        t.script = s.script ∧ t.clock = s.clock

/-- While a run executes, the step is exec of the instruction that the bytes at pc, pc + 1 and pc + 2 (mod 2^16) decode to, in
the state whose pc is past the whole instruction. That the three bytes are decoded at once and pc moved before exec is the
model's reading of the fetch rules (log 9, DEDUCED). (R55, R90, R91, R102) -/
def Obligations.StepRunsTheDecodedInstruction : Prop :=
  ∀ (s : State) (i : Instr) (rest : List Byte), s.phase = .running →
    decode [s.readByte s.pc, s.readByte (s.pc + 1), s.readByte (s.pc + 2)] = .ok (i, rest) →
    step s = exec i (s.setPc (s.pc + BitVec.ofNat 16 (encode i).length))

/-- For every instruction with every operand value, decoding its bytes followed by any bytes gives the instruction and those
bytes, and its bytes are one whole instruction. (R70, R73, R74, R75, R77, R78) -/
def Obligations.DecodingAnEncodedInstructionGivesItBack : Prop :=
  ∀ (i : Instr) (rest : List Byte),
    decode (encode i ++ rest) = .ok (i, rest) ∧ wholeInstruction (encode i) = true

/-- If a byte string decodes to i with some rest, the encoding of i followed by the rest is the string: no bit of an opcode or
immediate is dropped, and no two encodings share an instruction. (R74, R75, R77, R79) -/
def Obligations.EncodingADecodedInstructionGivesItsBytesBack : Prop :=
  ∀ (bytes : List Byte) (i : Instr) (rest : List Byte), decode bytes = .ok (i, rest) → encode i ++ rest = bytes

/-- Every opcode byte whose base field op[4:0] is not 0 is one byte long and decodes to the base operation with that number in
the table of R72, with short = op[5], return = op[6] and keep = op[7]. (R71, R72, R77, R78, R93) -/
def Obligations.DecodedFieldsAreTheOpcodeBits : Prop :=
  ∀ op b1 b2 : Byte, op.toNat % 32 ≠ 0 →
    lengthOfOpcode op = 1 ∧
    ∃ b m, decodeBytes op b1 b2 = Instr.op b m ∧ baseNumber b = op.toNat % 32 ∧ m.short = op.getLsbD 5 ∧
      m.ret = op.getLsbD 6 ∧ m.keep = op.getLsbD 7

/-- The bytes 0x00, 0x20, ..., 0xE0 decode to BRK, JCI, JMI, JSI, LIT, LIT2, LITr and LIT2r with the lengths of R73; a 16-bit
immediate has its high byte first. (R73) -/
def Obligations.ImmediateOpcodesDecodeWithBigEndianImmediates : Prop :=
  ∀ b1 b2 : Byte, ∃ v : Short, v.toNat = 256 * b1.toNat + b2.toNat ∧
    decodeBytes 0x00 b1 b2 = .brk ∧ decodeBytes 0x20 b1 b2 = .jci v ∧ decodeBytes 0x40 b1 b2 = .jmi v ∧
    decodeBytes 0x60 b1 b2 = .jsi v ∧ decodeBytes 0x80 b1 b2 = .lit b1 ∧ decodeBytes 0xA0 b1 b2 = .lit2 v ∧
    decodeBytes 0xC0 b1 b2 = .litr b1 ∧ decodeBytes 0xE0 b1 b2 = .lit2r v ∧
    lengthOfOpcode 0x00 = 1 ∧ lengthOfOpcode 0x80 = 2 ∧ lengthOfOpcode 0xC0 = 2 ∧ lengthOfOpcode 0x20 = 3 ∧
    lengthOfOpcode 0x40 = 3 ∧ lengthOfOpcode 0x60 = 3 ∧ lengthOfOpcode 0xA0 = 3 ∧ lengthOfOpcode 0xE0 = 3

/-- Words of the map of R78, one or more of each family, decode to their instructions, and a string without its immediate
bytes is refused by name; that refusal is the model's choice and no rule of the spec (log 18). (R70, R73, R78) -/
def Obligations.SpecWordsDecodeToTheirInstructions : Prop :=
  decode [0x80, 0x2A] = .ok (.lit 0x2A, []) ∧ decode [0xA0, 0x12, 0x34] = .ok (.lit2 0x1234, []) ∧
    decode [0x60, 0x00, 0x02] = .ok (.jsi 0x0002, []) ∧ decode [0x18, 0x00] = .ok (.add, [0x00]) ∧
    decode [0x1A] = .ok (.mul, []) ∧ decode [0xA6] = .ok (.dup2k, []) ∧ decode [0x6F] = .ok (.sth2r, []) ∧
    decode [0x0D] = .ok (.jcn, []) ∧ decode [0xB5] = .ok (.sta2k, []) ∧ decode [0x57] = .ok (.deor, []) ∧
    decode [0xE8] = .ok (.equ2kr, []) ∧ decode [0xA0, 0x12] = .error (.immediateMissing 0xA0)

/-- Assembling reverses naming: each of the 256 mnemonics gives back its byte, and the text of any instruction, its operand in
hex, assembles to its opcode byte and operand bytes. The notation is the spec's own decision D14 of 92_eei_decisions.md (log
17); the spaces between words and the lower case of the hex digits are the model's choice (log 16). (R13, R83, R84, R86) -/
def Obligations.AssemblingAnInstructionsTextGivesItsBytes : Prop :=
  (∀ op : Byte, byteOfMnemonic (mnemonicOfByte op) = some op) ∧
    ∀ i : Instr, assembleInstr (wordsOf (instrText i)) = some (encode i)

/-- The six primitives move the index mod 256, write and read the slots their rules name, big-endian for shorts, clear nothing
and change no other slot; a peek changes nothing. The rule of peek2, R32, is marked as derived from R25 and R29. (R27, R28,
R29, R30, R31, R32) -/
def Obligations.StackPrimitivesFollowTheirRules : Prop :=
  ∀ (t : Stack) (b n : Byte) (v : Short),
    StackBecomes t (t.push1 b) t.idx.toNat [b.toNat] ∧
    (t.pop1.1.toNat = fromTop t 0 ∧ StackBecomes t t.pop1.2 ((t.idx.toNat + 255) % 256) []) ∧
    (t.peek1 n).toNat = fromTop t n.toNat ∧
    StackBecomes t (t.push2 v) t.idx.toNat [v.toNat / 256, v.toNat % 256] ∧
    (t.pop2.1.toNat = 256 * fromTop t 1 + fromTop t 0 ∧ StackBecomes t t.pop2.2 ((t.idx.toNat + 254) % 256) []) ∧
    (t.peek2 n).toNat = 256 * fromTop t (n.toNat + 1) + fromTop t n.toNat

/-- A read of one or two bytes gives them high byte first, the second at (addr + 1) mod 2^16; a write puts them there and
every other byte of memory reads as before. (R51, R52) -/
def Obligations.MemoryPrimitivesAreBigEndianAndWrap : Prop :=
  ∀ (s : State) (addr : Addr) (b : Byte) (v : Short),
    (memRead1 s addr).toNat = byteAt s addr.toNat ∧
    (memRead2 s addr).toNat = 256 * byteAt s addr.toNat + byteAt s (addr.toNat + 1) ∧
    MemoryBecomes s (memWrite1 s addr b) addr.toNat [b.toNat] ∧
    MemoryBecomes s (memWrite2 s addr v) addr.toNat [v.toNat / 256, v.toNat % 256]

/-- From every state that meets the invariant, whatever the host does, the next state meets it: memory and both stacks stay in
canonical form, a session that has not booted has no history, the machine is stuck only inside a bridge call, and every
suspended run waits on a call that was made, in order. (R21, R22, R40, R52, R336, R475, R491) -/
def Obligations.EveryStepKeepsTheInvariant : Prop :=
  ∀ s t : State, s.Inv → step s = .next t → t.Inv

/-- The reset state has canonical memory and stacks, no suspended run, no result and no call made. The fields for the result
and the calls, and their reset values, are the model's (log 12). (R41, R491) -/
def Obligations.ResetMeetsTheInvariant : Prop :=
  State.reset.Inv

/-- Every opcode is defined on every state: every instruction gives a next state, and so does every step unless the machine is
stuck. It is stuck only after a host turn, inside a bridge call, that never returns or exhausts the host's stack, and then
there is no step. While a run executes this is R460 and R475, and the stuck cases are cases 2 and 3 of R475. That stuck is a
phase in which the step is refused is the model's way of writing R475's "no step" (log 10). That a host leaving the core idle
also makes a step is the model's choice (log 11). (R79, R337, R460, R461, R475) -/
def Obligations.EveryInstructionCompletesAndOnlyAHostCallIsStuck : Prop :=
  (∀ (i : Instr) (s : State), ∃ t, exec i s = .next t) ∧
    (∀ s : State, (∀ why : Stuck, s.phase ≠ .stuck why) → Safe s) ∧
    (∀ (s : State) (why : Stuck), s.phase = .stuck why → step s = .refused (.stuck why)) ∧
    ∀ (s t : State) (why : Stuck), step s = .next t → t.phase = .stuck why →
      (takeTurn s).1.act = .stuck why ∧ t.suspended ≠ []

/-- No instruction and no host turn changes the pc or the transaction of a suspended run: a step keeps the list, or suspends
the run that executes with the pc after its one-byte instruction and the call it made, or takes the innermost run off and
leaves exactly the pc it had in the pc field. The run taken off goes on at that pc, or ends there when it waited on a DEO*
whose false signal is honoured (R333, the decision D7, log 6); no pc is then held (R41), and that the pc field keeps its value
is the model's choice (log 13). (R40, R41, R107, R332, R333, R334, R335, R464) -/
def Obligations.SuspendedRunsChangeOnlyAtTheInnermostEnd : Prop :=
  ∀ s t : State, step s = .next t →
    t.suspended = s.suspended ∨
    (∃ x : Transaction, s.phase = .running ∧ t.suspended = { pc := s.pc + 1, transaction := x } :: s.suspended ∧
      t.calls = s.calls ++ [x.call]) ∨
    (∃ f : Suspended, s.phase = .hosting ∧ s.suspended = f :: t.suspended ∧ t.pc = f.pc ∧ t.calls = s.calls)

/-- While deo_halt_honoured is false, a step of a run that is not BRK leaves a run executing, or the machine stuck with the
same run suspended inside its bridge call; no result is returned. (R74, R105, R106, R333, R475) -/
def Obligations.OnlyBrkEndsARunByDefault : Prop :=
  ∀ s t : State, s.phase = .running → fetchInstr s ≠ .brk → s.deoHaltHonoured = false → step s = .next t →
    t.result = s.result ∧
    (t.phase = .running ∨ ((∃ why : Stuck, t.phase = .stuck why) ∧
      ∃ x : Transaction, t.suspended = { pc := s.pc + 1, transaction := x } :: s.suspended))

/-- Each DEI* and DEO* makes exactly one transaction and no other opcode calls the host; no opcode but STZ*, STR* and STA*
(and the host during a call) changes a byte of memory; no opcode writes the halt parameter. (R56, R60, R101, R336) -/
def Obligations.OnlyDeviceInstructionsCallTheHostAndOnlyStoresWriteMemory : Prop :=
  ∀ s t : State, s.phase = .running → step s = .next t →
    (¬ callsHost (fetchInstr s) → t.calls = s.calls) ∧
    (callsHost (fetchInstr s) → ∃ c : HostCall, t.calls = s.calls ++ [c]) ∧
    (¬ callsHost (fetchInstr s) → ¬ storesToMemory (fetchInstr s) → MemoryKept s t) ∧
    t.deoHaltHonoured = s.deoHaltHonoured

/-- For every base operation but DEI* and DEO*, in every keep mode: each of the 250 slots from the active stack's old top
downwards holds after the instruction what it held before; the at most six result bytes land above. (R96, R97, R98) -/
def Obligations.KeepModeLeavesTheOperandsInPlace : Prop :=
  ∀ (b : Base) (m : Mode) (s t : State), m.keep = true → b ≠ .dei → b ≠ .deo → exec (Instr.op b m) s = .next t →
    ∀ n, n < 250 → slotAt (t.stack (activeStack m)) ((s.stack (activeStack m)).idx.toNat + 256 - n) =
      fromTop (s.stack (activeStack m)) n

/-- For every opcode that does not call the host, 256 executions of it from any state all complete and leave both stack
indices at their starting values. (R24, R498) -/
def Obligations.Repeating256TimesRestoresBothIndices : Prop :=
  ∀ (i : Instr) (s : State), ¬ callsHost i →
    ∃ t, execTimes 256 i s = .next t ∧ t.wst.idx = s.wst.idx ∧ t.rst.idx = s.rst.idx

/-- Moving a byte or a short to the other stack and back leaves both indices and every byte of the stack it came from as they
were. The stack of the cross-stack push is the decision D5 of 92_eei_decisions.md, the spec's own (log 17). (R100, R184, R186,
R188) -/
def Obligations.StashAndUnstashRestoreTheStack : Prop :=
  ∀ (w r : Bool) (s : State), ∃ t u,
    exec (Instr.op .sth { short := w, ret := r, keep := false }) s = .next t ∧
    exec (Instr.op .sth { short := w, ret := !r, keep := false }) t = .next u ∧
    (∀ k : StackId, (u.stack k).idx = (s.stack k).idx) ∧
    (∀ n : Nat, slotAt (u.stack (if r then .ret else .work)) n = slotAt (s.stack (if r then .ret else .work)) n) ∧
    MemoryKept s u ∧ u.pc = s.pc

/-- A step at POPk, POP2k, POPkr or POP2kr changes nothing but pc, which moves one byte on, mod 2^16. (R80, R135, R136, R137,
R138) -/
def Obligations.KeptPopsOnlyAdvancePc : Prop :=
  ∀ s : State, s.phase = .running →
    (s.readByte s.pc = 0x82 ∨ s.readByte s.pc = 0xA2 ∨ s.readByte s.pc = 0xC2 ∨ s.readByte s.pc = 0xE2) →
    step s = .next (s.setPc (s.pc + 1))

/-- A step at STR (0x13) with a zero offset on top writes the byte beneath it to the address after itself, and the instruction
the next step fetches has that byte as its opcode. That the address or port is on top and the value beneath it is the decision
D4 of 92_eei_decisions.md, the spec's own (log 17). (R64, R297, R298, R496) -/
def Obligations.StoreIsSeenByTheNextFetch : Prop :=
  ∀ s : State, s.phase = .running → s.readByte s.pc = 0x13 → fromTop s.wst 0 = 0 →
    ∃ t, step s = .next t ∧ t.phase = .running ∧ t.pc = s.pc + 1 ∧ (t.readByte t.pc).toNat = fromTop s.wst 1 ∧
      (opcode (fetchInstr t)).toNat = fromTop s.wst 1
end

