-- ==== Sys2Proof/Laws/Memory.lean ====
section
/-!
SUPPORT. The byte arrays: what a read gives after a write, and that every operation keeps the canonical form. Both read laws hold
of every list, canonical or not.
-/

namespace Sys2Proof.Machine

/-! ## Reading after writing -/

theorem read_erase_same (m : Memory) (a : Nat) : Memory.read (Memory.erase m a) a = Memory.unlisted := by
  induction m with
  | nil => rfl
  | cons c rest ih =>
    obtain ⟨k, b⟩ := c
    by_cases h : k = a
    · simpa [Memory.erase, h] using ih
    · simpa [Memory.erase, Memory.read, h] using ih

theorem read_erase_ne (m : Memory) (a x : Nat) (h : x ≠ a) : Memory.read (Memory.erase m a) x = Memory.read m x := by
  induction m with
  | nil => rfl
  | cons c rest ih =>
    obtain ⟨k, b⟩ := c
    by_cases hk : k = a
    · have hx : k ≠ x := by omega
      simpa [Memory.erase, Memory.read, hk, hx, h.symm] using ih
    · simp only [Memory.erase, Memory.read, List.filter_cons, hk, bne_iff_ne, ne_eq, not_false_eq_true, ↓reduceIte] at ih ⊢
      rw [ih]

theorem read_insert_same (m : Memory) (a : Nat) (v : Byte) : Memory.read (Memory.insert m a v) a = v := by
  induction m with
  | nil => simp [Memory.insert, Memory.read]
  | cons c rest ih =>
    obtain ⟨k, b⟩ := c
    simp only [Memory.insert]
    split
    · simp [Memory.read]
    · split
      · simp [Memory.read]
      · have : k ≠ a := by omega
        simpa [Memory.read, this] using ih

theorem read_insert_ne (m : Memory) (a x : Nat) (v : Byte) (h : x ≠ a) :
    Memory.read (Memory.insert m a v) x = Memory.read m x := by
  induction m with
  | nil => simp [Memory.insert, Memory.read, h.symm]
  | cons c rest ih =>
    obtain ⟨k, b⟩ := c
    simp only [Memory.insert]
    split
    · simp [Memory.read, h.symm]
    · split
      · have : k ≠ x := by omega
        simp [Memory.read, h.symm, this]
      · simp [Memory.read, ih]

/-- A read after a write: the value written at its own address, and what was there everywhere else. -/
theorem read_write (m : Memory) (a x : Nat) (v : Byte) :
    Memory.read (Memory.write m a v) x = if x = a then v else Memory.read m x := by
  unfold Memory.write
  split <;> split
  · next hv hx => rw [hx, read_erase_same, hv]
  · next hx => exact read_erase_ne m a x hx
  · next hx => rw [hx, read_insert_same]
  · next hx => exact read_insert_ne m a x v hx

@[simp] theorem read_write_same (m : Memory) (a : Nat) (v : Byte) : Memory.read (Memory.write m a v) a = v := by
  simp [read_write]

theorem read_write_ne (m : Memory) (a x : Nat) (v : Byte) (h : x ≠ a) :
    Memory.read (Memory.write m a v) x = Memory.read m x := by
  simp [read_write, h]

/-- Reading memory after `M[a] <- v`. -/
theorem readByte_writeByte (s : State) (a x : Addr) (v : Byte) :
    (s.writeByte a v).readByte x = if x = a then v else s.readByte x := by
  simp only [State.readByte, State.writeByte, read_write]
  simp only [BitVec.toNat_inj]

/-- Reading a slot after `T.data[i] <- v`. -/
theorem slot_setSlot (t : Stack) (i x v : Byte) : (t.setSlot i v).slot x = if x = i then v else t.slot x := by
  simp only [Stack.slot, Stack.setSlot, read_write]
  simp only [BitVec.toNat_inj]

/-! ## The canonical form -/

/-- The addresses rise above a lower bound exactly when each is above it and they rise. -/
theorem rising_some_iff (l : Nat) (m : Memory) :
    Memory.rising (some l) m = true ↔ Memory.rising none m = true ∧ ∀ c ∈ m, l < c.1 := by
  induction m generalizing l with
  | nil => simp [Memory.rising]
  | cons c rest ih =>
    obtain ⟨k, b⟩ := c
    simp only [Memory.rising, Bool.and_eq_true, decide_eq_true_eq, true_and, List.mem_cons, forall_eq_or_imp]
    constructor
    · rintro ⟨h, hr⟩
      refine ⟨hr, h, fun c hc => ?_⟩
      exact lt_trans h (((ih k).1 hr).2 c hc)
    · rintro ⟨hr, h, _⟩
      exact ⟨h, hr⟩

theorem rising_cons_iff (k : Nat) (b : Byte) (rest : Memory) :
    Memory.rising none ((k, b) :: rest) = true ↔ Memory.rising none rest = true ∧ ∀ c ∈ rest, k < c.1 := by
  rw [← rising_some_iff]
  simp [Memory.rising]

theorem rising_erase (m : Memory) (a : Nat) (h : Memory.rising none m = true) :
    Memory.rising none (Memory.erase m a) = true := by
  induction m with
  | nil => rfl
  | cons c rest ih =>
    obtain ⟨k, b⟩ := c
    obtain ⟨hr, hk⟩ := (rising_cons_iff k b rest).1 h
    by_cases hka : k = a
    · simpa [Memory.erase, hka] using ih hr
    · have he : Memory.erase ((k, b) :: rest) a = (k, b) :: Memory.erase rest a := by simp [Memory.erase, hka]
      rw [he, rising_cons_iff]
      exact ⟨ih hr, fun c hc => hk c (List.mem_of_mem_filter hc)⟩

theorem mem_insert (m : Memory) (a : Nat) (v : Byte) (c : Host.Cell) (h : c ∈ Memory.insert m a v) :
    c = (a, v) ∨ c ∈ m := by
  induction m with
  | nil => simpa [Memory.insert] using h
  | cons d rest ih =>
    obtain ⟨k, b⟩ := d
    simp only [Memory.insert] at h
    split at h
    · simpa using h
    · split at h
      · rcases List.mem_cons.1 h with h | h
        · exact .inl h
        · exact .inr (List.mem_cons_of_mem _ h)
      · rcases List.mem_cons.1 h with h | h
        · exact .inr (h ▸ List.mem_cons_self)
        · rcases ih h with h | h
          · exact .inl h
          · exact .inr (List.mem_cons_of_mem _ h)

theorem rising_insert (m : Memory) (a : Nat) (v : Byte) (h : Memory.rising none m = true) :
    Memory.rising none (Memory.insert m a v) = true := by
  induction m with
  | nil => simp [Memory.insert, Memory.rising]
  | cons d rest ih =>
    obtain ⟨k, b⟩ := d
    obtain ⟨hr, hk⟩ := (rising_cons_iff k b rest).1 h
    simp only [Memory.insert]
    split
    · next hak =>
      rw [rising_cons_iff]
      refine ⟨h, fun c hc => ?_⟩
      rcases List.mem_cons.1 hc with rfl | hc
      · exact hak
      · exact lt_trans hak (hk c hc)
    · split
      · next hak => subst hak; rw [rising_cons_iff]; exact ⟨hr, hk⟩
      · rw [rising_cons_iff]
        refine ⟨ih hr, fun c hc => ?_⟩
        rcases mem_insert rest a v c hc with rfl | hc
        · show k < a
          omega
        · exact hk c hc

/-- The canonical form, as two facts. -/
theorem wf_iff (size : Nat) (m : Memory) :
    Memory.wf size m = true ↔ Memory.rising none m = true ∧ ∀ c ∈ m, c.1 < size ∧ c.2 ≠ Memory.unlisted := by
  simp [Memory.wf, List.all_eq_true]

/-- A write of any byte at an address inside the array keeps the canonical form. -/
theorem wf_write (size : Nat) (m : Memory) (a : Nat) (v : Byte) (ha : a < size) (h : Memory.wf size m = true) :
    Memory.wf size (Memory.write m a v) = true := by
  rw [wf_iff] at h ⊢
  obtain ⟨hr, hc⟩ := h
  unfold Memory.write
  split
  · exact ⟨rising_erase m a hr, fun c h => hc c (List.mem_of_mem_filter h)⟩
  · next hv =>
    refine ⟨rising_insert m a v hr, fun c h => ?_⟩
    rcases mem_insert m a v c h with rfl | h
    · exact ⟨ha, hv⟩
    · exact hc c h

/-- `M[a] <- v` keeps memory's canonical form: every 16-bit address is inside it. -/
theorem wf_writeByte (s : State) (a : Addr) (v : Byte) (h : Memory.wf Config.memorySize s.mem = true) :
    Memory.wf Config.memorySize (s.writeByte a v).mem = true :=
  wf_write _ _ _ _ a.isLt h

/-- `T.data[i] <- v` keeps a stack's canonical form: every index is inside it. -/
theorem wf_setSlot (t : Stack) (i v : Byte) (h : Memory.wf Config.stackSize t.data = true) :
    Memory.wf Config.stackSize (t.setSlot i v).data = true :=
  wf_write _ _ _ _ i.isLt h

/-- Memory and stacks have the canonical form at reset. -/
theorem wf_nil (size : Nat) : Memory.wf size [] = true := rfl

end Sys2Proof.Machine
end

