-- ==== Sys2Proof/Laws/State.lean ====
section
/-!
SUPPORT. State updates, field by field: for every update of Ops.lean and every field of State, what the field is afterwards.
-/

namespace Sys2Proof.Machine

/-! ### `pc <- target` -/

@[simp] theorem setPc_mem (s : State) (p : Addr) : (s.setPc p).mem = s.mem := rfl
@[simp] theorem setPc_wst (s : State) (p : Addr) : (s.setPc p).wst = s.wst := rfl
@[simp] theorem setPc_rst (s : State) (p : Addr) : (s.setPc p).rst = s.rst := rfl
@[simp] theorem setPc_pc (s : State) (p : Addr) : (s.setPc p).pc = p := rfl
@[simp] theorem setPc_phase (s : State) (p : Addr) : (s.setPc p).phase = s.phase := rfl
@[simp] theorem setPc_suspended (s : State) (p : Addr) : (s.setPc p).suspended = s.suspended := rfl
@[simp] theorem setPc_result (s : State) (p : Addr) : (s.setPc p).result = s.result := rfl
@[simp] theorem setPc_deoHaltHonoured (s : State) (p : Addr) : (s.setPc p).deoHaltHonoured = s.deoHaltHonoured := rfl
@[simp] theorem setPc_calls (s : State) (p : Addr) : (s.setPc p).calls = s.calls := rfl
@[simp] theorem setPc_script (s : State) (p : Addr) : (s.setPc p).script = s.script := rfl
@[simp] theorem setPc_clock (s : State) (p : Addr) : (s.setPc p).clock = s.clock := rfl
@[simp] theorem setPc_stack (s : State) (p : Addr) (k : StackId) : (s.setPc p).stack k = s.stack k := by cases k <;> rfl

/-! ### `pc <- pc + n` -/

@[simp] theorem advancePc_mem (s : State) (n : Nat) : (s.advancePc n).mem = s.mem := rfl
@[simp] theorem advancePc_wst (s : State) (n : Nat) : (s.advancePc n).wst = s.wst := rfl
@[simp] theorem advancePc_rst (s : State) (n : Nat) : (s.advancePc n).rst = s.rst := rfl
@[simp] theorem advancePc_pc (s : State) (n : Nat) : (s.advancePc n).pc = s.pc + BitVec.ofNat 16 n := rfl
@[simp] theorem advancePc_phase (s : State) (n : Nat) : (s.advancePc n).phase = s.phase := rfl
@[simp] theorem advancePc_suspended (s : State) (n : Nat) : (s.advancePc n).suspended = s.suspended := rfl
@[simp] theorem advancePc_result (s : State) (n : Nat) : (s.advancePc n).result = s.result := rfl
@[simp] theorem advancePc_deoHaltHonoured (s : State) (n : Nat) : (s.advancePc n).deoHaltHonoured = s.deoHaltHonoured := rfl
@[simp] theorem advancePc_calls (s : State) (n : Nat) : (s.advancePc n).calls = s.calls := rfl
@[simp] theorem advancePc_script (s : State) (n : Nat) : (s.advancePc n).script = s.script := rfl
@[simp] theorem advancePc_clock (s : State) (n : Nat) : (s.advancePc n).clock = s.clock := rfl
@[simp] theorem advancePc_stack (s : State) (n : Nat) (k : StackId) : (s.advancePc n).stack k = s.stack k := by cases k <;> rfl

/-! ### `M[a] <- v` -/

@[simp] theorem writeByte_mem (s : State) (a : Addr) (v : Byte) : (s.writeByte a v).mem = Memory.write s.mem a.toNat v := rfl
@[simp] theorem writeByte_wst (s : State) (a : Addr) (v : Byte) : (s.writeByte a v).wst = s.wst := rfl
@[simp] theorem writeByte_rst (s : State) (a : Addr) (v : Byte) : (s.writeByte a v).rst = s.rst := rfl
@[simp] theorem writeByte_pc (s : State) (a : Addr) (v : Byte) : (s.writeByte a v).pc = s.pc := rfl
@[simp] theorem writeByte_phase (s : State) (a : Addr) (v : Byte) : (s.writeByte a v).phase = s.phase := rfl
@[simp] theorem writeByte_suspended (s : State) (a : Addr) (v : Byte) : (s.writeByte a v).suspended = s.suspended := rfl
@[simp] theorem writeByte_result (s : State) (a : Addr) (v : Byte) : (s.writeByte a v).result = s.result := rfl
@[simp] theorem writeByte_deoHaltHonoured (s : State) (a : Addr) (v : Byte) : (s.writeByte a v).deoHaltHonoured = s.deoHaltHonoured := rfl
@[simp] theorem writeByte_calls (s : State) (a : Addr) (v : Byte) : (s.writeByte a v).calls = s.calls := rfl
@[simp] theorem writeByte_script (s : State) (a : Addr) (v : Byte) : (s.writeByte a v).script = s.script := rfl
@[simp] theorem writeByte_clock (s : State) (a : Addr) (v : Byte) : (s.writeByte a v).clock = s.clock := rfl
@[simp] theorem writeByte_stack (s : State) (a : Addr) (v : Byte) (k : StackId) : (s.writeByte a v).stack k = s.stack k := by cases k <;> rfl

/-! ### The start of a run -/

@[simp] theorem startRun_mem (s : State) (p : Addr) : (startRun p s).mem = s.mem := rfl
@[simp] theorem startRun_wst (s : State) (p : Addr) : (startRun p s).wst = s.wst := rfl
@[simp] theorem startRun_rst (s : State) (p : Addr) : (startRun p s).rst = s.rst := rfl
@[simp] theorem startRun_pc (s : State) (p : Addr) : (startRun p s).pc = p := rfl
@[simp] theorem startRun_phase (s : State) (p : Addr) : (startRun p s).phase = .running := rfl
@[simp] theorem startRun_suspended (s : State) (p : Addr) : (startRun p s).suspended = s.suspended := rfl
@[simp] theorem startRun_result (s : State) (p : Addr) : (startRun p s).result = s.result := rfl
@[simp] theorem startRun_deoHaltHonoured (s : State) (p : Addr) : (startRun p s).deoHaltHonoured = s.deoHaltHonoured := rfl
@[simp] theorem startRun_calls (s : State) (p : Addr) : (startRun p s).calls = s.calls := rfl
@[simp] theorem startRun_script (s : State) (p : Addr) : (startRun p s).script = s.script := rfl
@[simp] theorem startRun_clock (s : State) (p : Addr) : (startRun p s).clock = s.clock := rfl
@[simp] theorem startRun_stack (s : State) (p : Addr) (k : StackId) : (startRun p s).stack k = s.stack k := by cases k <;> rfl

/-! ### The end of a run -/

@[simp] theorem halt_mem (s : State) (p : Addr) : (halt p s).mem = s.mem := rfl
@[simp] theorem halt_wst (s : State) (p : Addr) : (halt p s).wst = s.wst := rfl
@[simp] theorem halt_rst (s : State) (p : Addr) : (halt p s).rst = s.rst := rfl
@[simp] theorem halt_pc (s : State) (p : Addr) : (halt p s).pc = s.pc := rfl
@[simp] theorem halt_phase (s : State) (p : Addr) : (halt p s).phase = .hosting := rfl
@[simp] theorem halt_suspended (s : State) (p : Addr) : (halt p s).suspended = s.suspended := rfl
@[simp] theorem halt_result (s : State) (p : Addr) : (halt p s).result = some p := rfl
@[simp] theorem halt_deoHaltHonoured (s : State) (p : Addr) : (halt p s).deoHaltHonoured = s.deoHaltHonoured := rfl
@[simp] theorem halt_calls (s : State) (p : Addr) : (halt p s).calls = s.calls := rfl
@[simp] theorem halt_script (s : State) (p : Addr) : (halt p s).script = s.script := rfl
@[simp] theorem halt_clock (s : State) (p : Addr) : (halt p s).clock = s.clock := rfl
@[simp] theorem halt_stack (s : State) (p : Addr) (k : StackId) : (halt p s).stack k = s.stack k := by cases k <;> rfl

/-! ### Publishing a transaction -/

@[simp] theorem publish_mem (s : State) (x : Transaction) : (publish x s).mem = s.mem := rfl
@[simp] theorem publish_wst (s : State) (x : Transaction) : (publish x s).wst = s.wst := rfl
@[simp] theorem publish_rst (s : State) (x : Transaction) : (publish x s).rst = s.rst := rfl
@[simp] theorem publish_pc (s : State) (x : Transaction) : (publish x s).pc = s.pc := rfl
@[simp] theorem publish_phase (s : State) (x : Transaction) : (publish x s).phase = .hosting := rfl
@[simp] theorem publish_suspended (s : State) (x : Transaction) : (publish x s).suspended = { pc := s.pc, transaction := x } :: s.suspended := rfl
@[simp] theorem publish_result (s : State) (x : Transaction) : (publish x s).result = s.result := rfl
@[simp] theorem publish_deoHaltHonoured (s : State) (x : Transaction) : (publish x s).deoHaltHonoured = s.deoHaltHonoured := rfl
@[simp] theorem publish_calls (s : State) (x : Transaction) : (publish x s).calls = s.calls ++ [x.call] := rfl
@[simp] theorem publish_script (s : State) (x : Transaction) : (publish x s).script = s.script := rfl
@[simp] theorem publish_clock (s : State) (x : Transaction) : (publish x s).clock = s.clock := rfl
@[simp] theorem publish_stack (s : State) (x : Transaction) (k : StackId) : (publish x s).stack k = s.stack k := by cases k <;> rfl

/-! ### A bridge call that never comes back -/

@[simp] theorem enterStuck_mem (s : State) (why : Stuck) : (enterStuck why s).mem = s.mem := rfl
@[simp] theorem enterStuck_wst (s : State) (why : Stuck) : (enterStuck why s).wst = s.wst := rfl
@[simp] theorem enterStuck_rst (s : State) (why : Stuck) : (enterStuck why s).rst = s.rst := rfl
@[simp] theorem enterStuck_pc (s : State) (why : Stuck) : (enterStuck why s).pc = s.pc := rfl
@[simp] theorem enterStuck_phase (s : State) (why : Stuck) : (enterStuck why s).phase =
    if s.suspended.isEmpty then s.phase else .stuck why := rfl
@[simp] theorem enterStuck_suspended (s : State) (why : Stuck) : (enterStuck why s).suspended = s.suspended := rfl
@[simp] theorem enterStuck_result (s : State) (why : Stuck) : (enterStuck why s).result = s.result := rfl
@[simp] theorem enterStuck_deoHaltHonoured (s : State) (why : Stuck) : (enterStuck why s).deoHaltHonoured =
    s.deoHaltHonoured := rfl
@[simp] theorem enterStuck_calls (s : State) (why : Stuck) : (enterStuck why s).calls = s.calls := rfl
@[simp] theorem enterStuck_script (s : State) (why : Stuck) : (enterStuck why s).script = s.script := rfl
@[simp] theorem enterStuck_clock (s : State) (why : Stuck) : (enterStuck why s).clock = s.clock := rfl
@[simp] theorem enterStuck_stack (s : State) (why : Stuck) (k : StackId) : (enterStuck why s).stack k = s.stack k := by
  cases k <;> rfl

/-! ### Replacing a stack -/

@[simp] theorem setStack_mem (s : State) (k : StackId) (t : Stack) : (s.setStack k t).mem = s.mem := by cases k <;> rfl
@[simp] theorem setStack_pc (s : State) (k : StackId) (t : Stack) : (s.setStack k t).pc = s.pc := by cases k <;> rfl
@[simp] theorem setStack_phase (s : State) (k : StackId) (t : Stack) : (s.setStack k t).phase = s.phase := by cases k <;> rfl
@[simp] theorem setStack_suspended (s : State) (k : StackId) (t : Stack) : (s.setStack k t).suspended = s.suspended := by cases k <;> rfl
@[simp] theorem setStack_result (s : State) (k : StackId) (t : Stack) : (s.setStack k t).result = s.result := by cases k <;> rfl
@[simp] theorem setStack_deoHaltHonoured (s : State) (k : StackId) (t : Stack) : (s.setStack k t).deoHaltHonoured = s.deoHaltHonoured := by cases k <;> rfl
@[simp] theorem setStack_calls (s : State) (k : StackId) (t : Stack) : (s.setStack k t).calls = s.calls := by cases k <;> rfl
@[simp] theorem setStack_script (s : State) (k : StackId) (t : Stack) : (s.setStack k t).script = s.script := by cases k <;> rfl
@[simp] theorem setStack_clock (s : State) (k : StackId) (t : Stack) : (s.setStack k t).clock = s.clock := by cases k <;> rfl
@[simp] theorem setStack_stack_same (s : State) (k : StackId) (t : Stack) : (s.setStack k t).stack k = t := by cases k <;> rfl
@[simp] theorem setStack_stack_other (s : State) (k l : StackId) (t : Stack) (h : l ≠ k) :
    (s.setStack k t).stack l = s.stack l := by cases k <;> cases l <;> first | rfl | exact absurd rfl h
@[simp] theorem setStack_setStack (s : State) (k : StackId) (t u : Stack) : (s.setStack k t).setStack k u = s.setStack k u := by
  cases k <;> rfl
@[simp] theorem setStack_stack (s : State) (k : StackId) : s.setStack k (s.stack k) = s := by cases k <;> rfl
@[simp] theorem setStack_readByte (s : State) (k : StackId) (t : Stack) (a : Addr) :
    (s.setStack k t).readByte a = s.readByte a := by cases k <;> rfl
@[simp] theorem setPc_readByte (s : State) (p a : Addr) : (s.setPc p).readByte a = s.readByte a := rfl
@[simp] theorem setPc_setPc (s : State) (p q : Addr) : (s.setPc p).setPc q = s.setPc q := rfl
@[simp] theorem setPc_setStack (s : State) (p : Addr) (k : StackId) (t : Stack) :
    (s.setPc p).setStack k t = (s.setStack k t).setPc p := by cases k <;> rfl
@[simp] theorem writeByte_setStack (s : State) (a : Addr) (v : Byte) (k : StackId) (t : Stack) :
    (s.writeByte a v).setStack k t = (s.setStack k t).writeByte a v := by cases k <;> rfl
@[simp] theorem stack_work (s : State) : s.stack .work = s.wst := rfl
@[simp] theorem stack_ret (s : State) : s.stack .ret = s.rst := rfl

/-! ### Stacks -/

@[simp] theorem setIdx_idx (t : Stack) (i : Byte) : (t.setIdx i).idx = i := rfl
@[simp] theorem setIdx_data (t : Stack) (i : Byte) : (t.setIdx i).data = t.data := rfl
@[simp] theorem setIdx_setIdx (t : Stack) (i j : Byte) : (t.setIdx i).setIdx j = t.setIdx j := rfl
@[simp] theorem setIdx_slot (t : Stack) (i j : Byte) : (t.setIdx i).slot j = t.slot j := rfl
@[simp] theorem setIdx_same (t : Stack) : t.setIdx t.idx = t := rfl
@[simp] theorem setSlot_idx (t : Stack) (i v : Byte) : (t.setSlot i v).idx = t.idx := rfl
@[simp] theorem setSlot_data (t : Stack) (i v : Byte) : (t.setSlot i v).data = Memory.write t.data i.toNat v := rfl

end Sys2Proof.Machine
end

