-- ==== Sys2Proof/Laws/Stack.lean ====
section
/-!
SUPPORT. Pushing on a stack, said once: a push of any number of bytes as one operation on a list of bytes, the first one deepest,
with the index and every slot afterwards.
-/

namespace Sys2Proof.Machine

/-- Push the bytes of a list in order; the last is the new top (R27, R98). -/
def Stack.pushBytes (t : Stack) (bytes : List Byte) : Stack := bytes.foldl Stack.push1 t

@[simp] theorem pushBytes_nil (t : Stack) : t.pushBytes [] = t := rfl

theorem pushBytes_cons (t : Stack) (v : Byte) (bytes : List Byte) :
    t.pushBytes (v :: bytes) = (t.push1 v).pushBytes bytes := rfl

theorem pushBytes_append (t : Stack) (xs ys : List Byte) : (t.pushBytes xs).pushBytes ys = t.pushBytes (xs ++ ys) := by
  simp [Stack.pushBytes]

/-- A byte push is the push of one byte. -/
theorem push1_eq_pushBytes (t : Stack) (v : Byte) : t.push1 v = t.pushBytes [v] := rfl

/-- A short push is the push of its two bytes, the high byte first (R30). -/
theorem push2_eq_pushBytes (t : Stack) (v : Short) : t.push2 v = t.pushBytes [hiByte v, loByte v] := rfl

@[simp] theorem push1_idx (t : Stack) (v : Byte) : (t.push1 v).idx = t.idx + 1 := rfl

theorem push1_slot (t : Stack) (v x : Byte) : (t.push1 v).slot x = if x = t.idx + 1 then v else t.slot x := by
  simp [Stack.push1, slot_setSlot]

/-- The index after a push moves up by the number of bytes pushed, mod 256. -/
theorem pushBytes_idx (t : Stack) (bytes : List Byte) : (t.pushBytes bytes).idx = t.idx + BitVec.ofNat 8 bytes.length := by
  induction bytes generalizing t with
  | nil => simp
  | cons v rest ih =>
    rw [pushBytes_cons, ih, push1_idx, List.length_cons, BitVec.add_assoc]
    congr 1
    apply BitVec.eq_of_toNat_eq
    simp [Nat.add_comm]

/-- A slot that no pushed byte goes to keeps its byte (R39). -/
theorem pushBytes_slot_other (t : Stack) (bytes : List Byte) (x : Byte)
    (h : ∀ k, k < bytes.length → x ≠ t.idx + 1 + BitVec.ofNat 8 k) : (t.pushBytes bytes).slot x = t.slot x := by
  induction bytes generalizing t with
  | nil => rfl
  | cons v rest ih =>
    rw [pushBytes_cons, ih, push1_slot, if_neg]
    · simpa using h 0 (by simp)
    · intro k hk hx
      apply h (k + 1) (by simpa using hk)
      rw [hx, push1_idx]
      apply BitVec.eq_of_toNat_eq
      simp
      omega

/-- The bytes of one push of at most 256 bytes all stand in the stack afterwards, in order. -/
theorem pushBytes_slot (t : Stack) (bytes : List Byte) (hlen : bytes.length ≤ 256) (k : Nat) (hk : k < bytes.length) :
    (t.pushBytes bytes).slot (t.idx + 1 + BitVec.ofNat 8 k) = bytes[k] := by
  induction bytes generalizing t k with
  | nil => simp at hk
  | cons v rest ih =>
    rw [pushBytes_cons]
    simp only [List.length_cons] at hlen hk
    cases k with
    | zero =>
      rw [pushBytes_slot_other, push1_slot]
      · simp
      · intro j hj hx
        have := congrArg BitVec.toNat hx
        simp at this
        omega
    | succ j =>
      have := ih (t.push1 v) (by omega) j (by omega)
      rw [push1_idx] at this
      have hidx : t.idx + 1 + BitVec.ofNat 8 (j + 1) = t.idx + 1 + 1 + BitVec.ofNat 8 j := by
        apply BitVec.eq_of_toNat_eq
        simp
        omega
      rw [hidx, this]
      rfl

/-- Pushing keeps a stack's canonical form. -/
theorem wf_pushBytes (t : Stack) (bytes : List Byte) (h : Memory.wf Config.stackSize t.data = true) :
    Memory.wf Config.stackSize (t.pushBytes bytes).data = true := by
  induction bytes generalizing t with
  | nil => exact h
  | cons v rest ih => exact ih _ (wf_setSlot _ _ _ h)

/-! ### Popping and peeking in slots -/

theorem pop1_eq (t : Stack) : t.pop1 = (t.slot t.idx, t.setIdx (t.idx - 1)) := rfl

theorem pop2_eq (t : Stack) : t.pop2 = (concatBytes (t.slot (t.idx - 1)) (t.slot t.idx), t.setIdx (t.idx - 2)) := by
  have h : t.idx - 1 - 1 = t.idx - 2 := by bv_omega
  simp only [Stack.pop2, pop1_eq, setIdx_slot, setIdx_idx, setIdx_setIdx, h]

theorem peek1_eq (t : Stack) (n : Byte) : t.peek1 n = t.slot (t.idx - n) := rfl

theorem peek2_eq (t : Stack) (n : Byte) : t.peek2 n = concatBytes (t.slot (t.idx - (n + 1))) (t.slot (t.idx - n)) := rfl

end Sys2Proof.Machine
end

