-- ==== Sys2Proof/Laws/Words.lean ====
section
/-!
SUPPORT. Bytes and shorts as numbers: the value of every byte-order and sign helper of Decode.lean and Operands.lean.
-/

namespace Sys2Proof

@[simp] theorem concatBytes_toNat (hi lo : Byte) : (concatBytes hi lo).toNat = 256 * hi.toNat + lo.toNat := by
  have := lo.isLt
  simp only [concatBytes, BitVec.toNat_append]
  rw [Nat.shiftLeft_eq, Nat.mul_comm, ← Nat.two_pow_add_eq_or_of_lt lo.isLt]

@[simp] theorem hiByte_toNat (v : Short) : (hiByte v).toNat = v.toNat / 256 := by
  have := v.isLt
  simp only [hiByte, BitVec.extractLsb'_toNat, Nat.shiftRight_eq_div_pow]
  omega

@[simp] theorem loByte_toNat (v : Short) : (loByte v).toNat = v.toNat % 256 := by
  simp [loByte, BitVec.extractLsb'_toNat]

@[simp] theorem hiByte_concatBytes (hi lo : Byte) : hiByte (concatBytes hi lo) = hi := by
  apply BitVec.eq_of_toNat_eq
  have := lo.isLt
  simp
  omega

@[simp] theorem loByte_concatBytes (hi lo : Byte) : loByte (concatBytes hi lo) = lo := by
  apply BitVec.eq_of_toNat_eq
  have := lo.isLt
  simp
  omega

@[simp] theorem concatBytes_hiByte_loByte (v : Short) : concatBytes (hiByte v) (loByte v) = v := by
  apply BitVec.eq_of_toNat_eq
  simp
  omega

namespace Machine

@[simp] theorem zeroPageAddr_toNat (b : Byte) : (zeroPageAddr b).toNat = b.toNat := by
  have := b.isLt
  simp [zeroPageAddr]
  omega

/-- `relativeAddr` adds the signed byte, mod `2^16`. -/
theorem relativeAddr_toNat (pc : Addr) (off : Byte) :
    (relativeAddr pc off).toNat = (pc.toNat + (if off.toNat < 128 then off.toNat else off.toNat + 65280)) % 65536 := by
  have := off.isLt
  have hs : (off.signExtend 16).toNat = if off.toNat < 128 then off.toNat else off.toNat + 65280 := by
    rw [BitVec.toNat_signExtend, BitVec.msb_eq_decide]
    by_cases h : off.toNat < 128
    · have h' : ¬ 128 ≤ off.toNat := by omega
      simp [h, h']
      omega
    · have h' : 128 ≤ off.toNat := by omega
      simp [h, h']
      omega
  rw [relativeAddr, BitVec.toNat_add, hs]

theorem conditionHolds_iff (c : Byte) : conditionHolds c = true ↔ c.toNat ≠ 0 := by
  simp [conditionHolds, ← BitVec.toNat_inj]

@[simp] theorem flagByte_toNat (b : Bool) : (flagByte b).toNat = if b then 1 else 0 := by cases b <;> rfl

end Machine

end Sys2Proof
end

