-- ==== Sys2Proof/Laws/Operands.lean ====
section
/-!
SUPPORT. Operand taking and result pushing in closed form: what a handler holds after `n` bytes taken (R96), what each taken value
is, and what pushing a value of the mode's width does (R98).
-/

namespace Sys2Proof.Machine

@[simp] theorem otherStack_ne (m : Mode) : otherStack m ≠ activeStack m := by
  obtain ⟨s, r, k⟩ := m
  cases r <;> simp [otherStack, activeStack]

@[simp] theorem activeStack_ne (m : Mode) : activeStack m ≠ otherStack m := fun h => otherStack_ne m h.symm

/-- The active stack's index after `n` bytes taken (R96). -/
def takenIdx (m : Mode) (t : Stack) (n : Nat) : Byte := if m.keep then t.idx else t.idx - BitVec.ofNat 8 n

/-- The active stack after `n` bytes taken. -/
def takenStack (m : Mode) (s : State) (n : Nat) : Stack :=
  (s.stack (activeStack m)).setIdx (takenIdx m (s.stack (activeStack m)) n)

/-- The state after `n` bytes taken. -/
def takenState (m : Mode) (s : State) (n : Nat) : State := s.setStack (activeStack m) (takenStack m s n)

/-- A handler that began at `s` and has taken `n` bytes (R96). -/
def taken (m : Mode) (s : State) (n : Nat) : Taking :=
  { cur := (s.stack (activeStack m)).idx - BitVec.ofNat 8 n, st := takenState m s n }

@[simp] theorem taken_st (m : Mode) (s : State) (n : Nat) : (taken m s n).st = takenState m s n := rfl

theorem takenState_zero (m : Mode) (s : State) : takenState m s 0 = s := by
  simp [takenState, takenStack, takenIdx]

theorem beginTake_eq (m : Mode) (s : State) : beginTake m s = taken m s 0 := by
  rw [taken, takenState_zero, beginTake]
  congr 1
  bv_omega

/-- One byte taken (R96). -/
theorem take1_taken (m : Mode) (s : State) (n : Nat) :
    take1 m (taken m s n) =
      ((s.stack (activeStack m)).slot ((s.stack (activeStack m)).idx - BitVec.ofNat 8 n), taken m s (n + 1)) := by
  have h : (s.stack (activeStack m)).idx - BitVec.ofNat 8 n - 1 =
      (s.stack (activeStack m)).idx - BitVec.ofNat 8 (n + 1) := by
    rw [BitVec.sub_sub, BitVec.ofNat_add]
    rfl
  cases hk : m.keep <;>
    simp only [take1, taken, takenState, takenStack, takenIdx, hk, h, setStack_stack_same, setIdx_slot, setIdx_setIdx,
      setStack_setStack, if_true, if_false, Bool.false_eq_true]

/-- A short taken: its low byte, then its high byte (R96). -/
theorem take2_taken (m : Mode) (s : State) (n : Nat) :
    take2 m (taken m s n) =
      (concatBytes ((s.stack (activeStack m)).slot ((s.stack (activeStack m)).idx - BitVec.ofNat 8 (n + 1)))
        ((s.stack (activeStack m)).slot ((s.stack (activeStack m)).idx - BitVec.ofNat 8 n)), taken m s (n + 2)) := by
  simp only [take2, take1_taken]

/-- The value of the mode's width whose low byte is `n` below the top of a stack (R29, R32). -/
def operandAt : (m : Mode) → Stack → Nat → BitVec (modeBits m)
  | ⟨true, _, _⟩, t, n => concatBytes (t.slot (t.idx - BitVec.ofNat 8 (n + 1))) (t.slot (t.idx - BitVec.ofNat 8 n))
  | ⟨false, _, _⟩, t, n => t.slot (t.idx - BitVec.ofNat 8 n)

/-- A value of the mode's width taken (R96). -/
theorem takeN_taken (m : Mode) (s : State) (n : Nat) :
    takeN m (taken m s n) =
      (operandAt m (s.stack (activeStack m)) n, taken m s (n + operandBytes m)) := by
  obtain ⟨w, r, k⟩ := m
  cases w
  · exact take1_taken ⟨false, r, k⟩ s n
  · exact take2_taken ⟨true, r, k⟩ s n

/-! ### The width -/

theorem operandBytes_cases (m : Mode) : operandBytes m = 1 ∨ operandBytes m = 2 := by
  obtain ⟨w, r, k⟩ := m
  cases w <;> simp [operandBytes]

theorem operandBytes_le (m : Mode) : operandBytes m ≤ 2 := by
  rcases operandBytes_cases m with h | h <;> omega

/-- The width in bits is eight times the width in bytes (R93, R95). -/
theorem modeBits_eq (m : Mode) : modeBits m = 8 * operandBytes m := by
  obtain ⟨w, r, k⟩ := m
  cases w <;> rfl

/-! ### The state after operands are taken -/

@[simp] theorem takenState_active (m : Mode) (s : State) (n : Nat) :
    (takenState m s n).stack (activeStack m) = takenStack m s n := by simp [takenState]
@[simp] theorem takenState_other (m : Mode) (s : State) (n : Nat) :
    (takenState m s n).stack (otherStack m) = s.stack (otherStack m) := by simp [takenState]
@[simp] theorem takenState_pc (m : Mode) (s : State) (n : Nat) : (takenState m s n).pc = s.pc := by simp [takenState]
@[simp] theorem takenState_readByte (m : Mode) (s : State) (n : Nat) (a : Addr) :
    (takenState m s n).readByte a = s.readByte a := by simp [takenState]
@[simp] theorem takenState_setActive (m : Mode) (s : State) (n : Nat) (t : Stack) :
    (takenState m s n).setStack (activeStack m) t = s.setStack (activeStack m) t := by simp [takenState]

/-! ### Pushing values -/

/-- The bytes a value of the mode's width is pushed as, the high byte first (R27, R30). -/
def valueBytes : (m : Mode) → BitVec (modeBits m) → List Byte
  | ⟨true, _, _⟩, v => [hiByte v, loByte v]
  | ⟨false, _, _⟩, v => [v]

theorem pushByte_eq (k : StackId) (v : Byte) (s : State) :
    pushByte k v s = s.setStack k ((s.stack k).pushBytes [v]) := rfl

theorem pushShort_eq (k : StackId) (v : Short) (s : State) :
    pushShort k v s = s.setStack k ((s.stack k).pushBytes [hiByte v, loByte v]) := rfl

theorem valueBytes_length (m : Mode) (v : BitVec (modeBits m)) : (valueBytes m v).length = operandBytes m := by
  obtain ⟨w, r, k⟩ := m
  cases w <;> rfl

/-- A value of the mode's width pushed (R11, R98). -/
theorem pushN_eq (m : Mode) (k : StackId) (v : BitVec (modeBits m)) (s : State) :
    pushN m k v s = s.setStack k ((s.stack k).pushBytes (valueBytes m v)) := by
  obtain ⟨w, r, q⟩ := m
  cases w <;> rfl

/-- A value pushed on the active stack after operands are taken. -/
theorem pushN_takenState (m : Mode) (s : State) (n : Nat) (v : BitVec (modeBits m)) :
    pushN m (activeStack m) v (takenState m s n) =
      s.setStack (activeStack m) ((takenStack m s n).pushBytes (valueBytes m v)) := by
  rw [pushN_eq, takenState_active, takenState_setActive]

/-- A byte pushed on the active stack after operands are taken. -/
theorem pushByte_takenState (m : Mode) (s : State) (n : Nat) (v : Byte) :
    pushByte (activeStack m) v (takenState m s n) = s.setStack (activeStack m) ((takenStack m s n).pushBytes [v]) := by
  rw [pushByte_eq, takenState_active, takenState_setActive]

/-- A further value pushed on a stack already put in its place. -/
theorem pushN_setStack (m : Mode) (s : State) (k : StackId) (t : Stack) (v : BitVec (modeBits m)) :
    pushN m k v (s.setStack k t) = s.setStack k (t.pushBytes (valueBytes m v)) := by
  rw [pushN_eq, setStack_stack_same, setStack_setStack]

/-! ### Memory operands -/

/-- A read of the mode's width does not depend on the stacks (R51, R60). -/
theorem memReadN_takenState (m : Mode) (s : State) (n : Nat) (addr : Addr) :
    memReadN m (takenState m s n) addr = memReadN m s addr := by
  obtain ⟨w, r, k⟩ := m
  cases w
  · exact takenState_readByte _ s n addr
  · exact congrArg₂ concatBytes (takenState_readByte _ s n addr) (takenState_readByte _ s n (addr + 1))

end Sys2Proof.Machine
end

