-- ==== Sys2Proof/Laws/Bridge.lean ====
section
/-!
SUPPORT. The host's side of the bridge, said once: what the host's writes can change, what one turn of the host can do, and what a
bridge transaction comes to for each turn.
-/

namespace Sys2Proof.Machine

/-! ### The host's turn -/

/-- Taking the host's next turn uses up that turn and changes nothing else. -/
theorem takeTurn_fields (s : State) :
    (takeTurn s).2.mem = s.mem ∧ (takeTurn s).2.wst = s.wst ∧ (takeTurn s).2.rst = s.rst ∧ (takeTurn s).2.pc = s.pc ∧
      (takeTurn s).2.phase = s.phase ∧ (takeTurn s).2.suspended = s.suspended ∧ (takeTurn s).2.result = s.result ∧
      (takeTurn s).2.deoHaltHonoured = s.deoHaltHonoured ∧ (takeTurn s).2.calls = s.calls := by
  unfold takeTurn
  split <;> simp

/-- The turn taken depends on the script and the clock only. -/
theorem takeTurn_congr (s t : State) (hs : s.script = t.script) (hc : s.clock = t.clock) :
    (takeTurn s).1 = (takeTurn t).1 ∧ (takeTurn s).2.script = (takeTurn t).2.script ∧
      (takeTurn s).2.clock = (takeTurn t).2.clock := by
  unfold takeTurn
  rw [hs, hc]
  split <;> simp

/-! ### The host's writes -/

/-- The host's writes change memory and the two stacks only: no `pc`, no run frame, no call, no parameter (R334). -/
theorem applyEdits_fields (s : State) (edits : List HostEdit) :
    (applyEdits s edits).pc = s.pc ∧ (applyEdits s edits).phase = s.phase ∧ (applyEdits s edits).suspended = s.suspended ∧
      (applyEdits s edits).result = s.result ∧ (applyEdits s edits).deoHaltHonoured = s.deoHaltHonoured ∧
      (applyEdits s edits).calls = s.calls ∧ (applyEdits s edits).script = s.script ∧
      (applyEdits s edits).clock = s.clock := by
  induction edits generalizing s with
  | nil => simp [applyEdits]
  | cons e rest ih =>
    have h := ih (applyEdit s e)
    have he : applyEdits s (e :: rest) = applyEdits (applyEdit s e) rest := rfl
    rw [he]
    cases e <;> simpa [applyEdit] using h

/-- The host's writes act on memory and the stacks alike whatever the other fields are. -/
theorem applyEdits_congr (s t : State) (edits : List HostEdit) (hm : s.mem = t.mem) (hw : s.wst = t.wst) (hr : s.rst = t.rst) :
    (applyEdits s edits).mem = (applyEdits t edits).mem ∧ (applyEdits s edits).wst = (applyEdits t edits).wst ∧
      (applyEdits s edits).rst = (applyEdits t edits).rst := by
  induction edits generalizing s t with
  | nil => exact ⟨hm, hw, hr⟩
  | cons e rest ih =>
    apply ih
    · cases e with
      | mem a v => simp [applyEdit, hm]
      | data k i v => simp [applyEdit, hm]
      | index k v => simp [applyEdit, hm]
    · cases e with
      | mem a v => simp [applyEdit, hw]
      | data k i v => cases k <;> simp [applyEdit, State.setStack, hw]
      | index k v => cases k <;> simp [applyEdit, State.setStack, hw]
    · cases e with
      | mem a v => simp [applyEdit, hr]
      | data k i v => cases k <;> simp [applyEdit, State.setStack, hr]
      | index k v => cases k <;> simp [applyEdit, State.setStack, hr]

/-- The host's writes keep the canonical forms. -/
theorem wf_applyEdits (s : State) (edits : List HostEdit) (hm : Memory.wf Config.memorySize s.mem = true)
    (hw : Memory.wf Config.stackSize s.wst.data = true) (hr : Memory.wf Config.stackSize s.rst.data = true) :
    Memory.wf Config.memorySize (applyEdits s edits).mem = true ∧
      Memory.wf Config.stackSize (applyEdits s edits).wst.data = true ∧
      Memory.wf Config.stackSize (applyEdits s edits).rst.data = true := by
  induction edits generalizing s with
  | nil => exact ⟨hm, hw, hr⟩
  | cons e rest ih =>
    refine ih (applyEdit s e) ?_ ?_ ?_
    · cases e with
      | mem a v => exact wf_writeByte s a v hm
      | data k i v => cases k <;> exact hm
      | index k v => cases k <;> exact hm
    · cases e with
      | mem a v => exact hw
      | data k i v =>
        cases k
        · exact wf_setSlot s.wst i v hw
        · exact hw
      | index k v => cases k <;> exact hw
    · cases e with
      | mem a v => exact hr
      | data k i v =>
        cases k
        · exact hr
        · exact wf_setSlot s.rst i v hr
      | index k v => cases k <;> exact hr

/-! ### One turn of the host -/

/-- The state after the host's writes of its next turn. -/
def afterEdits (s : State) : State := applyEdits (takeTurn s).2 (takeTurn s).1.edits

/-- A turn that calls `run` starts a run at its vector (R103, R335, R463). -/
theorem hostMove_run (s : State) (v : Addr) (h : (takeTurn s).1.act = .run v) : hostMove s = startRun v (afterEdits s) := by
  simp only [hostMove, afterEdits, h]

/-- A turn that finishes returns from the bridge call (R332). -/
theorem hostMove_finish (s : State) (value : Short) (c : Bool) (h : (takeTurn s).1.act = .finish value c) :
    hostMove s = resume value c (afterEdits s) := by
  simp only [hostMove, afterEdits, h]

/-- A turn that never comes back leaves the machine stuck in the transaction (R475). -/
theorem hostMove_stuck (s : State) (why : Stuck) (h : (takeTurn s).1.act = .stuck why) :
    hostMove s = enterStuck why (afterEdits s) := by
  simp only [hostMove, afterEdits, h]

/-- Inside a bridge call the machine gets stuck. -/
theorem enterStuck_phase_cons (s : State) (why : Stuck) (f : Suspended) (rest : List Suspended) (h : s.suspended = f :: rest) :
    (enterStuck why s).phase = .stuck why := by
  simp [h]

/-- With no suspended run there is no bridge call to be stuck in. -/
theorem enterStuck_nil (s : State) (why : Stuck) (h : s.suspended = []) : enterStuck why s = s := by
  cases s
  simp_all [enterStuck]

/-- What one turn of the host leaves of the core's own state before it acts: all of it. -/
theorem afterEdits_fields (s : State) :
    (afterEdits s).pc = s.pc ∧ (afterEdits s).phase = s.phase ∧ (afterEdits s).suspended = s.suspended ∧
      (afterEdits s).result = s.result ∧ (afterEdits s).deoHaltHonoured = s.deoHaltHonoured ∧
      (afterEdits s).calls = s.calls ∧ (afterEdits s).script = (takeTurn s).2.script ∧
      (afterEdits s).clock = (takeTurn s).2.clock := by
  obtain ⟨h1, h2, h3, h4, h5, h6, h7, h8⟩ := applyEdits_fields (takeTurn s).2 (takeTurn s).1.edits
  obtain ⟨_, _, _, t1, t2, t3, t4, t5, t6⟩ := takeTurn_fields s
  exact ⟨h1.trans t1, h2.trans t2, h3.trans t3, h4.trans t4, h5.trans t5, h6.trans t6, h7, h8⟩

/-- The end of a bridge call with a suspended run: the run goes on with its own `pc` and its instruction is finished. -/
theorem resume_cons (s : State) (f : Suspended) (rest : List Suspended) (value : Short) (c : Bool)
    (h : s.suspended = f :: rest) :
    resume value c s =
      finishTransaction f.transaction value c { s with suspended := rest, pc := f.pc, phase := .running } := by
  simp [resume, h]

/-- With no suspended run there is nothing to return from. -/
theorem resume_nil (s : State) (value : Short) (c : Bool) (h : s.suspended = []) : resume value c s = s := by
  simp [resume, h]

end Sys2Proof.Machine
end

