-- ==== Sys2Proof/Laws/Decode.lean ====
section
/-!
SUPPORT. Decoding and encoding, instruction by instruction shape: the opcode byte and the bytes of an opcode with mode fields, what
its byte decodes to, and the same for the immediate opcodes.
-/

namespace Sys2Proof.Machine

/-! ### Opcodes with mode fields (R71, R84) -/

/-- The bytes of a base operation in a mode: its one opcode byte. -/
theorem encode_op (b : Base) (m : Mode) : encode (Instr.op b m) = [opcodeByte (baseNumber b) m] := by
  obtain ⟨w, r, k⟩ := m
  cases b <;> cases w <;> cases r <;> cases k <;> rfl

/-- Its length is one byte (R77). -/
@[simp] theorem length_op (b : Base) (m : Mode) : (Instr.op b m).length = 1 := by
  obtain ⟨w, r, k⟩ := m
  cases b <;> cases w <;> cases r <;> cases k <;> rfl

/-- Its opcode byte decodes to it, whatever follows. -/
theorem decodeBytes_opcodeByte (b : Base) (m : Mode) (b1 b2 : Byte) :
    decodeBytes (opcodeByte (baseNumber b) m) b1 b2 = Instr.op b m := by
  obtain ⟨w, r, k⟩ := m
  cases b <;> cases w <;> cases r <;> cases k <;> rfl

/-! ### The immediate opcodes (R73) -/

@[simp] theorem opcode_brk : opcode .brk = 0x00 := rfl
@[simp] theorem opcode_jci (imm : Short) : opcode (.jci imm) = 0x20 := rfl
@[simp] theorem opcode_jmi (imm : Short) : opcode (.jmi imm) = 0x40 := rfl
@[simp] theorem opcode_jsi (imm : Short) : opcode (.jsi imm) = 0x60 := rfl
@[simp] theorem opcode_lit (imm : Byte) : opcode (.lit imm) = 0x80 := rfl
@[simp] theorem opcode_lit2 (imm : Short) : opcode (.lit2 imm) = 0xA0 := rfl
@[simp] theorem opcode_litr (imm : Byte) : opcode (.litr imm) = 0xC0 := rfl
@[simp] theorem opcode_lit2r (imm : Short) : opcode (.lit2r imm) = 0xE0 := rfl

theorem decodeBytes_brk (b1 b2 : Byte) : decodeBytes 0x00 b1 b2 = .brk := rfl
theorem decodeBytes_jci (b1 b2 : Byte) : decodeBytes 0x20 b1 b2 = .jci (concatBytes b1 b2) := rfl
theorem decodeBytes_jmi (b1 b2 : Byte) : decodeBytes 0x40 b1 b2 = .jmi (concatBytes b1 b2) := rfl
theorem decodeBytes_jsi (b1 b2 : Byte) : decodeBytes 0x60 b1 b2 = .jsi (concatBytes b1 b2) := rfl
theorem decodeBytes_lit (b1 b2 : Byte) : decodeBytes 0x80 b1 b2 = .lit b1 := rfl
theorem decodeBytes_lit2 (b1 b2 : Byte) : decodeBytes 0xA0 b1 b2 = .lit2 (concatBytes b1 b2) := rfl
theorem decodeBytes_litr (b1 b2 : Byte) : decodeBytes 0xC0 b1 b2 = .litr b1 := rfl
theorem decodeBytes_lit2r (b1 b2 : Byte) : decodeBytes 0xE0 b1 b2 = .lit2r (concatBytes b1 b2) := rfl

end Sys2Proof.Machine
end

