-- ==== Sys2Proof/Laws/Exec.lean ====
section
/-!
SUPPORT. What `exec` is, once: the 248 opcodes with mode fields by base operation and mode, and the split of the instructions into
those and the eight immediate ones.
-/

namespace Sys2Proof.Machine

/-- The meaning of a base operation, as a function of the mode and the state. -/
def regular : Base → Mode → State → State
  | .inc, m, s => opInc m s
  | .pop, m, s => opPop m s
  | .nip, m, s => opNip m s
  | .swp, m, s => opSwp m s
  | .rot, m, s => opRot m s
  | .dup, m, s => opDup m s
  | .ovr, m, s => opOvr m s
  | .equ, m, s => opEqu m s
  | .neq, m, s => opNeq m s
  | .gth, m, s => opGth m s
  | .lth, m, s => opLth m s
  | .jmp, m, s => opJmp m s
  | .jcn, m, s => opJcn m s
  | .jsr, m, s => opJsr m s
  | .sth, m, s => opSth m s
  | .ldz, m, s => opLdz m s
  | .stz, m, s => opStz m s
  | .ldr, m, s => opLdr m s
  | .str, m, s => opStr m s
  | .lda, m, s => opLda m s
  | .sta, m, s => opSta m s
  | .dei, m, s => opDei m s
  | .deo, m, s => opDeo m s
  | .add, m, s => opAdd m s
  | .sub, m, s => opSub m s
  | .mul, m, s => opMul m s
  | .div, m, s => opDiv m s
  | .and, m, s => opAnd m s
  | .ora, m, s => opOra m s
  | .eor, m, s => opEor m s
  | .sft, m, s => opSft m s

/-- `exec` of an opcode with mode fields is its base operation's meaning in its mode (R93, R109). -/
theorem exec_op (b : Base) (m : Mode) (s : State) : exec (Instr.op b m) s = .next (regular b m s) := by
  obtain ⟨w, r, k⟩ := m
  cases b <;> cases w <;> cases r <;> cases k <;> rfl

theorem opCase {p1 p2 p3 p4 p5 p6 p7 p8 p9 : Prop} (h : p9) : p1 ∨ p2 ∨ p3 ∨ p4 ∨ p5 ∨ p6 ∨ p7 ∨ p8 ∨ p9 :=
  .inr (.inr (.inr (.inr (.inr (.inr (.inr (.inr h)))))))

/-- Every instruction is one of the eight immediate ones or a base operation in a mode (R71, R73). -/
theorem instr_cases (i : Instr) :
    i = .brk ∨ (∃ imm, i = .jci imm) ∨ (∃ imm, i = .jmi imm) ∨ (∃ imm, i = .jsi imm) ∨ (∃ imm, i = .lit imm) ∨
      (∃ imm, i = .lit2 imm) ∨ (∃ imm, i = .litr imm) ∨ (∃ imm, i = .lit2r imm) ∨ ∃ b m, i = Instr.op b m := by
  cases i with
  | brk => exact .inl rfl
  | jci imm => exact .inr (.inl ⟨imm, rfl⟩)
  | jmi imm => exact .inr (.inr (.inl ⟨imm, rfl⟩))
  | jsi imm => exact .inr (.inr (.inr (.inl ⟨imm, rfl⟩)))
  | lit imm => exact .inr (.inr (.inr (.inr (.inl ⟨imm, rfl⟩))))
  | lit2 imm => exact .inr (.inr (.inr (.inr (.inr (.inl ⟨imm, rfl⟩)))))
  | litr imm => exact .inr (.inr (.inr (.inr (.inr (.inr (.inl ⟨imm, rfl⟩))))))
  | lit2r imm => exact .inr (.inr (.inr (.inr (.inr (.inr (.inr (.inl ⟨imm, rfl⟩)))))))
  | inc => exact opCase ⟨.inc, ⟨false, false, false⟩, rfl⟩
  | inc2 => exact opCase ⟨.inc, ⟨true, false, false⟩, rfl⟩
  | incr => exact opCase ⟨.inc, ⟨false, true, false⟩, rfl⟩
  | inc2r => exact opCase ⟨.inc, ⟨true, true, false⟩, rfl⟩
  | inck => exact opCase ⟨.inc, ⟨false, false, true⟩, rfl⟩
  | inc2k => exact opCase ⟨.inc, ⟨true, false, true⟩, rfl⟩
  | inckr => exact opCase ⟨.inc, ⟨false, true, true⟩, rfl⟩
  | inc2kr => exact opCase ⟨.inc, ⟨true, true, true⟩, rfl⟩
  | pop => exact opCase ⟨.pop, ⟨false, false, false⟩, rfl⟩
  | pop2 => exact opCase ⟨.pop, ⟨true, false, false⟩, rfl⟩
  | popr => exact opCase ⟨.pop, ⟨false, true, false⟩, rfl⟩
  | pop2r => exact opCase ⟨.pop, ⟨true, true, false⟩, rfl⟩
  | popk => exact opCase ⟨.pop, ⟨false, false, true⟩, rfl⟩
  | pop2k => exact opCase ⟨.pop, ⟨true, false, true⟩, rfl⟩
  | popkr => exact opCase ⟨.pop, ⟨false, true, true⟩, rfl⟩
  | pop2kr => exact opCase ⟨.pop, ⟨true, true, true⟩, rfl⟩
  | nip => exact opCase ⟨.nip, ⟨false, false, false⟩, rfl⟩
  | nip2 => exact opCase ⟨.nip, ⟨true, false, false⟩, rfl⟩
  | nipr => exact opCase ⟨.nip, ⟨false, true, false⟩, rfl⟩
  | nip2r => exact opCase ⟨.nip, ⟨true, true, false⟩, rfl⟩
  | nipk => exact opCase ⟨.nip, ⟨false, false, true⟩, rfl⟩
  | nip2k => exact opCase ⟨.nip, ⟨true, false, true⟩, rfl⟩
  | nipkr => exact opCase ⟨.nip, ⟨false, true, true⟩, rfl⟩
  | nip2kr => exact opCase ⟨.nip, ⟨true, true, true⟩, rfl⟩
  | swp => exact opCase ⟨.swp, ⟨false, false, false⟩, rfl⟩
  | swp2 => exact opCase ⟨.swp, ⟨true, false, false⟩, rfl⟩
  | swpr => exact opCase ⟨.swp, ⟨false, true, false⟩, rfl⟩
  | swp2r => exact opCase ⟨.swp, ⟨true, true, false⟩, rfl⟩
  | swpk => exact opCase ⟨.swp, ⟨false, false, true⟩, rfl⟩
  | swp2k => exact opCase ⟨.swp, ⟨true, false, true⟩, rfl⟩
  | swpkr => exact opCase ⟨.swp, ⟨false, true, true⟩, rfl⟩
  | swp2kr => exact opCase ⟨.swp, ⟨true, true, true⟩, rfl⟩
  | rot => exact opCase ⟨.rot, ⟨false, false, false⟩, rfl⟩
  | rot2 => exact opCase ⟨.rot, ⟨true, false, false⟩, rfl⟩
  | rotr => exact opCase ⟨.rot, ⟨false, true, false⟩, rfl⟩
  | rot2r => exact opCase ⟨.rot, ⟨true, true, false⟩, rfl⟩
  | rotk => exact opCase ⟨.rot, ⟨false, false, true⟩, rfl⟩
  | rot2k => exact opCase ⟨.rot, ⟨true, false, true⟩, rfl⟩
  | rotkr => exact opCase ⟨.rot, ⟨false, true, true⟩, rfl⟩
  | rot2kr => exact opCase ⟨.rot, ⟨true, true, true⟩, rfl⟩
  | dup => exact opCase ⟨.dup, ⟨false, false, false⟩, rfl⟩
  | dup2 => exact opCase ⟨.dup, ⟨true, false, false⟩, rfl⟩
  | dupr => exact opCase ⟨.dup, ⟨false, true, false⟩, rfl⟩
  | dup2r => exact opCase ⟨.dup, ⟨true, true, false⟩, rfl⟩
  | dupk => exact opCase ⟨.dup, ⟨false, false, true⟩, rfl⟩
  | dup2k => exact opCase ⟨.dup, ⟨true, false, true⟩, rfl⟩
  | dupkr => exact opCase ⟨.dup, ⟨false, true, true⟩, rfl⟩
  | dup2kr => exact opCase ⟨.dup, ⟨true, true, true⟩, rfl⟩
  | ovr => exact opCase ⟨.ovr, ⟨false, false, false⟩, rfl⟩
  | ovr2 => exact opCase ⟨.ovr, ⟨true, false, false⟩, rfl⟩
  | ovrr => exact opCase ⟨.ovr, ⟨false, true, false⟩, rfl⟩
  | ovr2r => exact opCase ⟨.ovr, ⟨true, true, false⟩, rfl⟩
  | ovrk => exact opCase ⟨.ovr, ⟨false, false, true⟩, rfl⟩
  | ovr2k => exact opCase ⟨.ovr, ⟨true, false, true⟩, rfl⟩
  | ovrkr => exact opCase ⟨.ovr, ⟨false, true, true⟩, rfl⟩
  | ovr2kr => exact opCase ⟨.ovr, ⟨true, true, true⟩, rfl⟩
  | equ => exact opCase ⟨.equ, ⟨false, false, false⟩, rfl⟩
  | equ2 => exact opCase ⟨.equ, ⟨true, false, false⟩, rfl⟩
  | equr => exact opCase ⟨.equ, ⟨false, true, false⟩, rfl⟩
  | equ2r => exact opCase ⟨.equ, ⟨true, true, false⟩, rfl⟩
  | equk => exact opCase ⟨.equ, ⟨false, false, true⟩, rfl⟩
  | equ2k => exact opCase ⟨.equ, ⟨true, false, true⟩, rfl⟩
  | equkr => exact opCase ⟨.equ, ⟨false, true, true⟩, rfl⟩
  | equ2kr => exact opCase ⟨.equ, ⟨true, true, true⟩, rfl⟩
  | neq => exact opCase ⟨.neq, ⟨false, false, false⟩, rfl⟩
  | neq2 => exact opCase ⟨.neq, ⟨true, false, false⟩, rfl⟩
  | neqr => exact opCase ⟨.neq, ⟨false, true, false⟩, rfl⟩
  | neq2r => exact opCase ⟨.neq, ⟨true, true, false⟩, rfl⟩
  | neqk => exact opCase ⟨.neq, ⟨false, false, true⟩, rfl⟩
  | neq2k => exact opCase ⟨.neq, ⟨true, false, true⟩, rfl⟩
  | neqkr => exact opCase ⟨.neq, ⟨false, true, true⟩, rfl⟩
  | neq2kr => exact opCase ⟨.neq, ⟨true, true, true⟩, rfl⟩
  | gth => exact opCase ⟨.gth, ⟨false, false, false⟩, rfl⟩
  | gth2 => exact opCase ⟨.gth, ⟨true, false, false⟩, rfl⟩
  | gthr => exact opCase ⟨.gth, ⟨false, true, false⟩, rfl⟩
  | gth2r => exact opCase ⟨.gth, ⟨true, true, false⟩, rfl⟩
  | gthk => exact opCase ⟨.gth, ⟨false, false, true⟩, rfl⟩
  | gth2k => exact opCase ⟨.gth, ⟨true, false, true⟩, rfl⟩
  | gthkr => exact opCase ⟨.gth, ⟨false, true, true⟩, rfl⟩
  | gth2kr => exact opCase ⟨.gth, ⟨true, true, true⟩, rfl⟩
  | lth => exact opCase ⟨.lth, ⟨false, false, false⟩, rfl⟩
  | lth2 => exact opCase ⟨.lth, ⟨true, false, false⟩, rfl⟩
  | lthr => exact opCase ⟨.lth, ⟨false, true, false⟩, rfl⟩
  | lth2r => exact opCase ⟨.lth, ⟨true, true, false⟩, rfl⟩
  | lthk => exact opCase ⟨.lth, ⟨false, false, true⟩, rfl⟩
  | lth2k => exact opCase ⟨.lth, ⟨true, false, true⟩, rfl⟩
  | lthkr => exact opCase ⟨.lth, ⟨false, true, true⟩, rfl⟩
  | lth2kr => exact opCase ⟨.lth, ⟨true, true, true⟩, rfl⟩
  | jmp => exact opCase ⟨.jmp, ⟨false, false, false⟩, rfl⟩
  | jmp2 => exact opCase ⟨.jmp, ⟨true, false, false⟩, rfl⟩
  | jmpr => exact opCase ⟨.jmp, ⟨false, true, false⟩, rfl⟩
  | jmp2r => exact opCase ⟨.jmp, ⟨true, true, false⟩, rfl⟩
  | jmpk => exact opCase ⟨.jmp, ⟨false, false, true⟩, rfl⟩
  | jmp2k => exact opCase ⟨.jmp, ⟨true, false, true⟩, rfl⟩
  | jmpkr => exact opCase ⟨.jmp, ⟨false, true, true⟩, rfl⟩
  | jmp2kr => exact opCase ⟨.jmp, ⟨true, true, true⟩, rfl⟩
  | jcn => exact opCase ⟨.jcn, ⟨false, false, false⟩, rfl⟩
  | jcn2 => exact opCase ⟨.jcn, ⟨true, false, false⟩, rfl⟩
  | jcnr => exact opCase ⟨.jcn, ⟨false, true, false⟩, rfl⟩
  | jcn2r => exact opCase ⟨.jcn, ⟨true, true, false⟩, rfl⟩
  | jcnk => exact opCase ⟨.jcn, ⟨false, false, true⟩, rfl⟩
  | jcn2k => exact opCase ⟨.jcn, ⟨true, false, true⟩, rfl⟩
  | jcnkr => exact opCase ⟨.jcn, ⟨false, true, true⟩, rfl⟩
  | jcn2kr => exact opCase ⟨.jcn, ⟨true, true, true⟩, rfl⟩
  | jsr => exact opCase ⟨.jsr, ⟨false, false, false⟩, rfl⟩
  | jsr2 => exact opCase ⟨.jsr, ⟨true, false, false⟩, rfl⟩
  | jsrr => exact opCase ⟨.jsr, ⟨false, true, false⟩, rfl⟩
  | jsr2r => exact opCase ⟨.jsr, ⟨true, true, false⟩, rfl⟩
  | jsrk => exact opCase ⟨.jsr, ⟨false, false, true⟩, rfl⟩
  | jsr2k => exact opCase ⟨.jsr, ⟨true, false, true⟩, rfl⟩
  | jsrkr => exact opCase ⟨.jsr, ⟨false, true, true⟩, rfl⟩
  | jsr2kr => exact opCase ⟨.jsr, ⟨true, true, true⟩, rfl⟩
  | sth => exact opCase ⟨.sth, ⟨false, false, false⟩, rfl⟩
  | sth2 => exact opCase ⟨.sth, ⟨true, false, false⟩, rfl⟩
  | sthr => exact opCase ⟨.sth, ⟨false, true, false⟩, rfl⟩
  | sth2r => exact opCase ⟨.sth, ⟨true, true, false⟩, rfl⟩
  | sthk => exact opCase ⟨.sth, ⟨false, false, true⟩, rfl⟩
  | sth2k => exact opCase ⟨.sth, ⟨true, false, true⟩, rfl⟩
  | sthkr => exact opCase ⟨.sth, ⟨false, true, true⟩, rfl⟩
  | sth2kr => exact opCase ⟨.sth, ⟨true, true, true⟩, rfl⟩
  | ldz => exact opCase ⟨.ldz, ⟨false, false, false⟩, rfl⟩
  | ldz2 => exact opCase ⟨.ldz, ⟨true, false, false⟩, rfl⟩
  | ldzr => exact opCase ⟨.ldz, ⟨false, true, false⟩, rfl⟩
  | ldz2r => exact opCase ⟨.ldz, ⟨true, true, false⟩, rfl⟩
  | ldzk => exact opCase ⟨.ldz, ⟨false, false, true⟩, rfl⟩
  | ldz2k => exact opCase ⟨.ldz, ⟨true, false, true⟩, rfl⟩
  | ldzkr => exact opCase ⟨.ldz, ⟨false, true, true⟩, rfl⟩
  | ldz2kr => exact opCase ⟨.ldz, ⟨true, true, true⟩, rfl⟩
  | stz => exact opCase ⟨.stz, ⟨false, false, false⟩, rfl⟩
  | stz2 => exact opCase ⟨.stz, ⟨true, false, false⟩, rfl⟩
  | stzr => exact opCase ⟨.stz, ⟨false, true, false⟩, rfl⟩
  | stz2r => exact opCase ⟨.stz, ⟨true, true, false⟩, rfl⟩
  | stzk => exact opCase ⟨.stz, ⟨false, false, true⟩, rfl⟩
  | stz2k => exact opCase ⟨.stz, ⟨true, false, true⟩, rfl⟩
  | stzkr => exact opCase ⟨.stz, ⟨false, true, true⟩, rfl⟩
  | stz2kr => exact opCase ⟨.stz, ⟨true, true, true⟩, rfl⟩
  | ldr => exact opCase ⟨.ldr, ⟨false, false, false⟩, rfl⟩
  | ldr2 => exact opCase ⟨.ldr, ⟨true, false, false⟩, rfl⟩
  | ldrr => exact opCase ⟨.ldr, ⟨false, true, false⟩, rfl⟩
  | ldr2r => exact opCase ⟨.ldr, ⟨true, true, false⟩, rfl⟩
  | ldrk => exact opCase ⟨.ldr, ⟨false, false, true⟩, rfl⟩
  | ldr2k => exact opCase ⟨.ldr, ⟨true, false, true⟩, rfl⟩
  | ldrkr => exact opCase ⟨.ldr, ⟨false, true, true⟩, rfl⟩
  | ldr2kr => exact opCase ⟨.ldr, ⟨true, true, true⟩, rfl⟩
  | str => exact opCase ⟨.str, ⟨false, false, false⟩, rfl⟩
  | str2 => exact opCase ⟨.str, ⟨true, false, false⟩, rfl⟩
  | strr => exact opCase ⟨.str, ⟨false, true, false⟩, rfl⟩
  | str2r => exact opCase ⟨.str, ⟨true, true, false⟩, rfl⟩
  | strk => exact opCase ⟨.str, ⟨false, false, true⟩, rfl⟩
  | str2k => exact opCase ⟨.str, ⟨true, false, true⟩, rfl⟩
  | strkr => exact opCase ⟨.str, ⟨false, true, true⟩, rfl⟩
  | str2kr => exact opCase ⟨.str, ⟨true, true, true⟩, rfl⟩
  | lda => exact opCase ⟨.lda, ⟨false, false, false⟩, rfl⟩
  | lda2 => exact opCase ⟨.lda, ⟨true, false, false⟩, rfl⟩
  | ldar => exact opCase ⟨.lda, ⟨false, true, false⟩, rfl⟩
  | lda2r => exact opCase ⟨.lda, ⟨true, true, false⟩, rfl⟩
  | ldak => exact opCase ⟨.lda, ⟨false, false, true⟩, rfl⟩
  | lda2k => exact opCase ⟨.lda, ⟨true, false, true⟩, rfl⟩
  | ldakr => exact opCase ⟨.lda, ⟨false, true, true⟩, rfl⟩
  | lda2kr => exact opCase ⟨.lda, ⟨true, true, true⟩, rfl⟩
  | sta => exact opCase ⟨.sta, ⟨false, false, false⟩, rfl⟩
  | sta2 => exact opCase ⟨.sta, ⟨true, false, false⟩, rfl⟩
  | star => exact opCase ⟨.sta, ⟨false, true, false⟩, rfl⟩
  | sta2r => exact opCase ⟨.sta, ⟨true, true, false⟩, rfl⟩
  | stak => exact opCase ⟨.sta, ⟨false, false, true⟩, rfl⟩
  | sta2k => exact opCase ⟨.sta, ⟨true, false, true⟩, rfl⟩
  | stakr => exact opCase ⟨.sta, ⟨false, true, true⟩, rfl⟩
  | sta2kr => exact opCase ⟨.sta, ⟨true, true, true⟩, rfl⟩
  | dei => exact opCase ⟨.dei, ⟨false, false, false⟩, rfl⟩
  | dei2 => exact opCase ⟨.dei, ⟨true, false, false⟩, rfl⟩
  | deir => exact opCase ⟨.dei, ⟨false, true, false⟩, rfl⟩
  | dei2r => exact opCase ⟨.dei, ⟨true, true, false⟩, rfl⟩
  | deik => exact opCase ⟨.dei, ⟨false, false, true⟩, rfl⟩
  | dei2k => exact opCase ⟨.dei, ⟨true, false, true⟩, rfl⟩
  | deikr => exact opCase ⟨.dei, ⟨false, true, true⟩, rfl⟩
  | dei2kr => exact opCase ⟨.dei, ⟨true, true, true⟩, rfl⟩
  | deo => exact opCase ⟨.deo, ⟨false, false, false⟩, rfl⟩
  | deo2 => exact opCase ⟨.deo, ⟨true, false, false⟩, rfl⟩
  | deor => exact opCase ⟨.deo, ⟨false, true, false⟩, rfl⟩
  | deo2r => exact opCase ⟨.deo, ⟨true, true, false⟩, rfl⟩
  | deok => exact opCase ⟨.deo, ⟨false, false, true⟩, rfl⟩
  | deo2k => exact opCase ⟨.deo, ⟨true, false, true⟩, rfl⟩
  | deokr => exact opCase ⟨.deo, ⟨false, true, true⟩, rfl⟩
  | deo2kr => exact opCase ⟨.deo, ⟨true, true, true⟩, rfl⟩
  | add => exact opCase ⟨.add, ⟨false, false, false⟩, rfl⟩
  | add2 => exact opCase ⟨.add, ⟨true, false, false⟩, rfl⟩
  | addr => exact opCase ⟨.add, ⟨false, true, false⟩, rfl⟩
  | add2r => exact opCase ⟨.add, ⟨true, true, false⟩, rfl⟩
  | addk => exact opCase ⟨.add, ⟨false, false, true⟩, rfl⟩
  | add2k => exact opCase ⟨.add, ⟨true, false, true⟩, rfl⟩
  | addkr => exact opCase ⟨.add, ⟨false, true, true⟩, rfl⟩
  | add2kr => exact opCase ⟨.add, ⟨true, true, true⟩, rfl⟩
  | sub => exact opCase ⟨.sub, ⟨false, false, false⟩, rfl⟩
  | sub2 => exact opCase ⟨.sub, ⟨true, false, false⟩, rfl⟩
  | subr => exact opCase ⟨.sub, ⟨false, true, false⟩, rfl⟩
  | sub2r => exact opCase ⟨.sub, ⟨true, true, false⟩, rfl⟩
  | subk => exact opCase ⟨.sub, ⟨false, false, true⟩, rfl⟩
  | sub2k => exact opCase ⟨.sub, ⟨true, false, true⟩, rfl⟩
  | subkr => exact opCase ⟨.sub, ⟨false, true, true⟩, rfl⟩
  | sub2kr => exact opCase ⟨.sub, ⟨true, true, true⟩, rfl⟩
  | mul => exact opCase ⟨.mul, ⟨false, false, false⟩, rfl⟩
  | mul2 => exact opCase ⟨.mul, ⟨true, false, false⟩, rfl⟩
  | mulr => exact opCase ⟨.mul, ⟨false, true, false⟩, rfl⟩
  | mul2r => exact opCase ⟨.mul, ⟨true, true, false⟩, rfl⟩
  | mulk => exact opCase ⟨.mul, ⟨false, false, true⟩, rfl⟩
  | mul2k => exact opCase ⟨.mul, ⟨true, false, true⟩, rfl⟩
  | mulkr => exact opCase ⟨.mul, ⟨false, true, true⟩, rfl⟩
  | mul2kr => exact opCase ⟨.mul, ⟨true, true, true⟩, rfl⟩
  | div => exact opCase ⟨.div, ⟨false, false, false⟩, rfl⟩
  | div2 => exact opCase ⟨.div, ⟨true, false, false⟩, rfl⟩
  | divr => exact opCase ⟨.div, ⟨false, true, false⟩, rfl⟩
  | div2r => exact opCase ⟨.div, ⟨true, true, false⟩, rfl⟩
  | divk => exact opCase ⟨.div, ⟨false, false, true⟩, rfl⟩
  | div2k => exact opCase ⟨.div, ⟨true, false, true⟩, rfl⟩
  | divkr => exact opCase ⟨.div, ⟨false, true, true⟩, rfl⟩
  | div2kr => exact opCase ⟨.div, ⟨true, true, true⟩, rfl⟩
  | and => exact opCase ⟨.and, ⟨false, false, false⟩, rfl⟩
  | and2 => exact opCase ⟨.and, ⟨true, false, false⟩, rfl⟩
  | andr => exact opCase ⟨.and, ⟨false, true, false⟩, rfl⟩
  | and2r => exact opCase ⟨.and, ⟨true, true, false⟩, rfl⟩
  | andk => exact opCase ⟨.and, ⟨false, false, true⟩, rfl⟩
  | and2k => exact opCase ⟨.and, ⟨true, false, true⟩, rfl⟩
  | andkr => exact opCase ⟨.and, ⟨false, true, true⟩, rfl⟩
  | and2kr => exact opCase ⟨.and, ⟨true, true, true⟩, rfl⟩
  | ora => exact opCase ⟨.ora, ⟨false, false, false⟩, rfl⟩
  | ora2 => exact opCase ⟨.ora, ⟨true, false, false⟩, rfl⟩
  | orar => exact opCase ⟨.ora, ⟨false, true, false⟩, rfl⟩
  | ora2r => exact opCase ⟨.ora, ⟨true, true, false⟩, rfl⟩
  | orak => exact opCase ⟨.ora, ⟨false, false, true⟩, rfl⟩
  | ora2k => exact opCase ⟨.ora, ⟨true, false, true⟩, rfl⟩
  | orakr => exact opCase ⟨.ora, ⟨false, true, true⟩, rfl⟩
  | ora2kr => exact opCase ⟨.ora, ⟨true, true, true⟩, rfl⟩
  | eor => exact opCase ⟨.eor, ⟨false, false, false⟩, rfl⟩
  | eor2 => exact opCase ⟨.eor, ⟨true, false, false⟩, rfl⟩
  | eorr => exact opCase ⟨.eor, ⟨false, true, false⟩, rfl⟩
  | eor2r => exact opCase ⟨.eor, ⟨true, true, false⟩, rfl⟩
  | eork => exact opCase ⟨.eor, ⟨false, false, true⟩, rfl⟩
  | eor2k => exact opCase ⟨.eor, ⟨true, false, true⟩, rfl⟩
  | eorkr => exact opCase ⟨.eor, ⟨false, true, true⟩, rfl⟩
  | eor2kr => exact opCase ⟨.eor, ⟨true, true, true⟩, rfl⟩
  | sft => exact opCase ⟨.sft, ⟨false, false, false⟩, rfl⟩
  | sft2 => exact opCase ⟨.sft, ⟨true, false, false⟩, rfl⟩
  | sftr => exact opCase ⟨.sft, ⟨false, true, false⟩, rfl⟩
  | sft2r => exact opCase ⟨.sft, ⟨true, true, false⟩, rfl⟩
  | sftk => exact opCase ⟨.sft, ⟨false, false, true⟩, rfl⟩
  | sft2k => exact opCase ⟨.sft, ⟨true, false, true⟩, rfl⟩
  | sftkr => exact opCase ⟨.sft, ⟨false, true, true⟩, rfl⟩
  | sft2kr => exact opCase ⟨.sft, ⟨true, true, true⟩, rfl⟩

/-- Every instruction gives a next state (R460, R475). -/
theorem exec_next (i : Instr) (s : State) : ∃ t, exec i s = .next t := by
  rcases instr_cases i with rfl | ⟨imm, rfl⟩ | ⟨imm, rfl⟩ | ⟨imm, rfl⟩ | ⟨imm, rfl⟩ | ⟨imm, rfl⟩ | ⟨imm, rfl⟩ | ⟨imm, rfl⟩ |
    ⟨b, m, rfl⟩
  · exact ⟨_, rfl⟩
  · exact ⟨_, rfl⟩
  · exact ⟨_, rfl⟩
  · exact ⟨_, rfl⟩
  · exact ⟨_, rfl⟩
  · exact ⟨_, rfl⟩
  · exact ⟨_, rfl⟩
  · exact ⟨_, rfl⟩
  · exact ⟨_, exec_op b m s⟩

end Sys2Proof.Machine
end

