-- ==== Sys2Proof/Laws/Observe.lean ====
section
/-!
SUPPORT. The words of Safety.lean and the closed forms of the operations: what a taken value, a pushed list of bytes, a stored value
and a loaded value are as natural numbers.
-/

namespace Sys2Proof.Machine

/-! ### Slots -/

theorem slotAt_slot (t : Stack) (i : Byte) : slotAt t i.toNat = (t.slot i).toNat := by
  have := i.isLt
  simp only [slotAt, Stack.slot]
  rw [Nat.mod_eq_of_lt (by omega)]

theorem slotAt_eq (t : Stack) (i : Nat) : slotAt t i = (t.slot (BitVec.ofNat 8 i)).toNat := by
  simp [slotAt, Stack.slot]

theorem fromTop_eq (t : Stack) (n : Nat) (h : n ≤ 256) : fromTop t n = (t.slot (t.idx - BitVec.ofNat 8 n)).toNat := by
  rw [fromTop, slotAt_eq]
  congr 2
  apply BitVec.eq_of_toNat_eq
  simp
  omega

/-- A value of the mode's width taken at byte offset `n` (R96). -/
theorem operandAt_toNat (m : Mode) (t : Stack) (n : Nat) (h : n ≤ 255) :
    (operandAt m t n).toNat = valueFromTop t n (operandBytes m) := by
  obtain ⟨w, r, k⟩ := m
  cases w
  · exact (fromTop_eq t n (by omega)).symm
  · simp only [operandAt, valueFromTop, operandBytes, fromTop_eq t n (by omega), fromTop_eq t (n + 1) (by omega)]
    exact concatBytes_toNat _ _

/-- A short taken from the top, as the absolute addresses are (R306, R315). -/
theorem topShort_toNat (t : Stack) :
    (concatBytes (t.slot (t.idx - BitVec.ofNat 8 1)) (t.slot (t.idx - BitVec.ofNat 8 0))).toNat = valueFromTop t 0 2 := by
  rw [concatBytes_toNat, valueFromTop, if_pos rfl, fromTop_eq _ _ (by omega), fromTop_eq _ _ (by omega)]

/-- The index after `n` bytes taken (R96). -/
theorem takenIdx_toNat (m : Mode) (t : Stack) (n : Nat) (h : n ≤ 256) :
    (takenIdx m t n).toNat = indexAfterTaking m t n := by
  have := t.idx.isLt
  simp only [takenIdx, indexAfterTaking]
  split
  · rfl
  · rw [BitVec.toNat_sub]
    simp
    omega

/-! ### Pushed bytes -/

/-- A stack put at index `b` with at most 256 bytes pushed is what `StackBecomes` says. -/
theorem stackBecomes_pushBytes (t : Stack) (b : Byte) (bytes : List Byte) (hlen : bytes.length ≤ 256) :
    StackBecomes t ((t.setIdx b).pushBytes bytes) b.toNat (bytes.map BitVec.toNat) := by
  have hslot : ∀ k, BitVec.ofNat 8 (b.toNat + 1 + k) = b + 1 + BitVec.ofNat 8 k := by
    intro k
    apply BitVec.eq_of_toNat_eq
    simp
  refine ⟨?_, ?_, ?_⟩
  · simp [pushBytes_idx]
  · intro k hk
    rw [List.length_map] at hk
    rw [slotAt_eq, hslot]
    have := pushBytes_slot (t.setIdx b) bytes hlen k hk
    rw [setIdx_idx] at this
    rw [this]
    simp [hk]
  · intro i hi
    rw [slotAt_eq, slotAt_eq, pushBytes_slot_other]
    · rfl
    · intro k hk hx
      apply hi k (by simpa using hk)
      have := congrArg BitVec.toNat hx
      simp at this
      omega

theorem byte_bytesOf (v : Byte) : [v].map BitVec.toNat = bytesOf 1 v.toNat := by
  have := v.isLt
  simp [bytesOf]
  omega

theorem short_bytesOf (v : Short) : [hiByte v, loByte v].map BitVec.toNat = bytesOf 2 v.toNat := by
  have := v.isLt
  simp [bytesOf]
  omega

/-- The bytes of a pushed value (R27, R30). -/
theorem valueBytes_toNat (m : Mode) (v : BitVec (modeBits m)) :
    (valueBytes m v).map BitVec.toNat = bytesOf (operandBytes m) v.toNat := by
  obtain ⟨w, r, k⟩ := m
  cases w
  · exact byte_bytesOf v
  · exact short_bytesOf v

/-- An instruction that takes `n` bytes and pushes `bytes` on its active stack does what `OnlyActiveStack` says. -/
theorem onlyActiveStack_pushBytes (m : Mode) (s : State) (n : Nat) (hn : n ≤ 256) (bytes : List Byte)
    (hlen : bytes.length ≤ 256) :
    OnlyActiveStack m s
      (s.setStack (activeStack m) ((takenStack m s n).pushBytes bytes)) n (bytes.map BitVec.toNat) := by
  refine ⟨?_, by simp, by simp, fun a => by simp, by simp [RestKept]⟩
  rw [setStack_stack_same, ← takenIdx_toNat m _ n hn]
  exact stackBecomes_pushBytes _ _ _ hlen

/-! ### Memory -/

theorem byteAt_eq (s : State) (a : Nat) : byteAt s a = (s.readByte (BitVec.ofNat 16 a)).toNat := by
  simp [byteAt, State.readByte]

theorem byteAt_addr (s : State) (a : Addr) : byteAt s a.toNat = (s.readByte a).toNat := by
  simp [byteAt_eq]

/-- A read of the mode's width (R51). -/
theorem memReadN_toNat (m : Mode) (s : State) (addr : Addr) :
    (memReadN m s addr).toNat = valueAt s addr.toNat (operandBytes m) := by
  obtain ⟨w, r, k⟩ := m
  cases w
  · simp only [memReadN, memRead1, valueAt, operandBytes, byteAt_addr]
    simp
    rfl
  · have h : BitVec.ofNat 16 (addr.toNat + 1) = addr + 1 := by
      apply BitVec.eq_of_toNat_eq
      simp
    simp only [memReadN, memRead2, valueAt, operandBytes, byteAt_addr, byteAt_eq s (addr.toNat + 1), h]
    exact concatBytes_toNat _ _

/-- A byte written (R52). -/
theorem memoryBecomes_memWrite1 (s : State) (addr : Addr) (v : Byte) :
    MemoryBecomes s (memWrite1 s addr v) addr.toNat (bytesOf 1 v.toNat) := by
  rw [← byte_bytesOf]
  refine ⟨fun k hk => ?_, fun a ha => ?_⟩
  · obtain rfl : k = 0 := by simpa using hk
    simp [byteAt_addr, memWrite1, readByte_writeByte]
  · have h : a ≠ addr := by
      rintro rfl
      exact ha 0 (by simp) (by simp; omega)
    simp [memWrite1, readByte_writeByte, h]

/-- A short written, its high byte first (R52). -/
theorem memoryBecomes_memWrite2 (s : State) (addr : Addr) (v : Short) :
    MemoryBecomes s (memWrite2 s addr v) addr.toNat (bytesOf 2 v.toNat) := by
  have h1 : BitVec.ofNat 16 (addr.toNat + 1) = addr + 1 := by
    apply BitVec.eq_of_toNat_eq
    simp
  have hne : addr ≠ addr + 1 := by
    intro h
    have := congrArg BitVec.toNat h
    simp at this
    omega
  rw [← short_bytesOf]
  refine ⟨fun k hk => ?_, fun a ha => ?_⟩
  · obtain rfl | rfl : k = 0 ∨ k = 1 := by
      simp at hk
      omega
    · simp only [byteAt_addr, memWrite2, readByte_writeByte, Nat.add_zero, if_neg hne, if_true]
      rfl
    · simp only [byteAt_eq _ (addr.toNat + 1), h1, memWrite2, readByte_writeByte, if_true]
      rfl
  · have h0 : a ≠ addr := by
      rintro rfl
      exact ha 0 (by simp) (by simp; omega)
    have h2 : a ≠ addr + 1 := by
      rintro rfl
      exact ha 1 (by simp) (by simp)
    simp only [memWrite2, readByte_writeByte, if_neg h0, if_neg h2]

/-- A value of the mode's width written (R52). -/
theorem memoryBecomes_memWriteN (m : Mode) (s : State) (addr : Addr) (v : BitVec (modeBits m)) :
    MemoryBecomes s (memWriteN m s addr v) addr.toNat (bytesOf (operandBytes m) v.toNat) := by
  obtain ⟨w, r, q⟩ := m
  cases w
  · exact memoryBecomes_memWrite1 s addr v
  · exact memoryBecomes_memWrite2 s addr v

/-- A write of the mode's width changes memory only. -/
theorem memWriteN_fields (m : Mode) (s : State) (addr : Addr) (v : BitVec (modeBits m)) :
    (∀ k, (memWriteN m s addr v).stack k = s.stack k) ∧ (memWriteN m s addr v).pc = s.pc ∧
      RestKept s (memWriteN m s addr v) := by
  obtain ⟨w, r, q⟩ := m
  cases w
  · exact ⟨fun k => writeByte_stack s addr v k, rfl, rfl, rfl, rfl, rfl, rfl, rfl, rfl⟩
  · exact ⟨fun k => by simp [memWriteN, memWrite2], rfl, rfl, rfl, rfl, rfl, rfl, rfl, rfl⟩

/-- The signed relative address as a number (R76). -/
theorem relativeAddr_eq_relativeTarget (pc : Addr) (off : Byte) :
    (relativeAddr pc off).toNat = relativeTarget pc off.toNat := by
  have := off.isLt
  rw [relativeAddr_toNat, relativeTarget, signedByte]
  split <;> omega

/-- The target of a jump as a number (R240). -/
theorem jumpTarget_toNat (m : Mode) (pc : Addr) (v : BitVec (modeBits m)) :
    (jumpTarget m pc v).toNat = jumpTargetAt pc (operandBytes m) v.toNat := by
  obtain ⟨w, r, k⟩ := m
  cases w
  · simp only [jumpTarget, jumpTargetAt, operandBytes]
    exact relativeAddr_eq_relativeTarget pc v
  · rfl

end Sys2Proof.Machine
end

