-- ==== Sys2Proof/Laws/Step.lean ====
section
/-!
SUPPORT. What a step is in each phase, and what the host finds when a bridge call is published.
-/

namespace Sys2Proof.Machine

theorem step_created (s : State) (h : s.phase = .created) : step s = .next (startRun Config.bootEntry s) := by
  simp [step, h]

theorem step_running (s : State) (h : s.phase = .running) :
    step s = exec (fetchInstr s) (s.advancePc (fetchInstr s).length) := by
  simp [step, h]

theorem step_hosting (s : State) (h : s.phase = .hosting) : step s = .next (hostMove s) := by
  simp [step, h]

theorem step_stuck (s : State) (why : Stuck) (h : s.phase = .stuck why) : step s = .refused (.stuck why) := by
  simp [step, h]

/-- A stack with `n` bytes taken, as `StackBecomes` says it. -/
theorem stackBecomes_takenStack (m : Mode) (s : State) (n : Nat) (hn : n ≤ 256) :
    StackBecomes (s.stack (activeStack m)) (takenStack m s n) (indexAfterTaking m (s.stack (activeStack m)) n) [] := by
  have h := stackBecomes_pushBytes (s.stack (activeStack m)) (takenIdx m (s.stack (activeStack m)) n) [] (by simp)
  rwa [takenIdx_toNat m _ n hn] at h

/-- Bytes pushed on a stack at its own index, as `StackBecomes` says it. -/
theorem stackBecomes_pushBytes_top (t : Stack) (bytes : List Byte) (hlen : bytes.length ≤ 256) :
    StackBecomes t (t.pushBytes bytes) t.idx.toNat (bytes.map BitVec.toNat) := by
  have h := stackBecomes_pushBytes t t.idx bytes hlen
  rwa [setIdx_same] at h

/-- `published` is the state after the operand removal, as far as memory and stacks go (R332). -/
theorem published_takenState (m : Mode) (s : State) (n : Nat) (call : HostCall) (hn : n ≤ 256) :
    (published m s n call).mem = s.mem ∧ (published m s n call).wst = (takenState m s n).wst ∧
      (published m s n call).rst = (takenState m s n).rst := by
  have h : BitVec.ofNat 8 (indexAfterTaking m (s.stack (activeStack m)) n) =
      takenIdx m (s.stack (activeStack m)) n := by
    rw [← takenIdx_toNat m _ n hn, BitVec.ofNat_toNat, BitVec.setWidth_eq]
  simp only [published, h]
  obtain ⟨w, r, k⟩ := m
  cases r <;> exact ⟨rfl, rfl, rfl⟩

end Sys2Proof.Machine
end

