-- ==== Sys2Proof/Tests/Slice0.lean ====
section
/-!
SUPPORT. The model's own tests: what the well-formedness checks refuse, the decoding of every opcode byte of R78,
single steps with the outcome the spec's worked examples give, and a witness for the hypotheses of every
statement that has any.
-/

namespace Sys2Proof.Tests

open Sys2Proof.Machine

/-! ## Well-formedness refuses -/

theorem test_empty_is_no_instruction : wholeInstruction [] = false := by decide
theorem test_lit_without_its_byte_is_refused : wholeInstruction [0x80] = false := by decide
theorem test_brk_with_a_byte_too_many_is_refused : wholeInstruction [0x00, 0x00] = false := by decide
theorem test_jci_with_half_an_immediate_is_refused : wholeInstruction [0x20, 0x00] = false := by decide
theorem test_code_cut_inside_an_immediate_is_refused : wholeInstructions 4 [0x18, 0xA0, 0x12] = false := by decide
theorem test_whole_code_is_accepted : wholeInstructions 6 [0x80, 0x2A, 0x80, 0x02, 0x18, 0x00] = true := by decide

/-! ## Decoding: the rows of the opcode map (R78), each byte followed by `12 34` -/

/-- The instructions of 32 opcode bytes from `first` on, each followed by the bytes `12 34`. -/
def decodedFrom (first : Nat) : List Instr :=
  (List.range 32).map (fun k => decodeBytes (BitVec.ofNat 8 (first + k)) 0x12 0x34)

theorem test_decode_rows_no_mode : decodedFrom 0x00 =
    [.brk, .inc, .pop, .nip, .swp, .rot, .dup, .ovr, .equ, .neq, .gth, .lth,
     .jmp, .jcn, .jsr, .sth, .ldz, .stz, .ldr, .str, .lda, .sta, .dei, .deo,
     .add, .sub, .mul, .div, .and, .ora, .eor, .sft] := by decide

theorem test_decode_rows_2 : decodedFrom 0x20 =
    [.jci 0x1234, .inc2, .pop2, .nip2, .swp2, .rot2, .dup2, .ovr2, .equ2, .neq2, .gth2, .lth2,
     .jmp2, .jcn2, .jsr2, .sth2, .ldz2, .stz2, .ldr2, .str2, .lda2, .sta2, .dei2, .deo2,
     .add2, .sub2, .mul2, .div2, .and2, .ora2, .eor2, .sft2] := by decide

theorem test_decode_rows_r : decodedFrom 0x40 =
    [.jmi 0x1234, .incr, .popr, .nipr, .swpr, .rotr, .dupr, .ovrr, .equr, .neqr, .gthr, .lthr,
     .jmpr, .jcnr, .jsrr, .sthr, .ldzr, .stzr, .ldrr, .strr, .ldar, .star, .deir, .deor,
     .addr, .subr, .mulr, .divr, .andr, .orar, .eorr, .sftr] := by decide

theorem test_decode_rows_2r : decodedFrom 0x60 =
    [.jsi 0x1234, .inc2r, .pop2r, .nip2r, .swp2r, .rot2r, .dup2r, .ovr2r, .equ2r, .neq2r, .gth2r, .lth2r,
     .jmp2r, .jcn2r, .jsr2r, .sth2r, .ldz2r, .stz2r, .ldr2r, .str2r, .lda2r, .sta2r, .dei2r, .deo2r,
     .add2r, .sub2r, .mul2r, .div2r, .and2r, .ora2r, .eor2r, .sft2r] := by decide

theorem test_decode_rows_k : decodedFrom 0x80 =
    [.lit 0x12, .inck, .popk, .nipk, .swpk, .rotk, .dupk, .ovrk, .equk, .neqk, .gthk, .lthk,
     .jmpk, .jcnk, .jsrk, .sthk, .ldzk, .stzk, .ldrk, .strk, .ldak, .stak, .deik, .deok,
     .addk, .subk, .mulk, .divk, .andk, .orak, .eork, .sftk] := by decide

theorem test_decode_rows_2k : decodedFrom 0xA0 =
    [.lit2 0x1234, .inc2k, .pop2k, .nip2k, .swp2k, .rot2k, .dup2k, .ovr2k, .equ2k, .neq2k, .gth2k, .lth2k,
     .jmp2k, .jcn2k, .jsr2k, .sth2k, .ldz2k, .stz2k, .ldr2k, .str2k, .lda2k, .sta2k, .dei2k, .deo2k,
     .add2k, .sub2k, .mul2k, .div2k, .and2k, .ora2k, .eor2k, .sft2k] := by decide

theorem test_decode_rows_kr : decodedFrom 0xC0 =
    [.litr 0x12, .inckr, .popkr, .nipkr, .swpkr, .rotkr, .dupkr, .ovrkr, .equkr, .neqkr, .gthkr, .lthkr,
     .jmpkr, .jcnkr, .jsrkr, .sthkr, .ldzkr, .stzkr, .ldrkr, .strkr, .ldakr, .stakr, .deikr, .deokr,
     .addkr, .subkr, .mulkr, .divkr, .andkr, .orakr, .eorkr, .sftkr] := by decide

theorem test_decode_rows_2kr : decodedFrom 0xE0 =
    [.lit2r 0x1234, .inc2kr, .pop2kr, .nip2kr, .swp2kr, .rot2kr, .dup2kr, .ovr2kr, .equ2kr, .neq2kr, .gth2kr, .lth2kr,
     .jmp2kr, .jcn2kr, .jsr2kr, .sth2kr, .ldz2kr, .stz2kr, .ldr2kr, .str2kr, .lda2kr, .sta2kr, .dei2kr, .deo2kr,
     .add2kr, .sub2kr, .mul2kr, .div2kr, .and2kr, .ora2kr, .eor2kr, .sft2kr] := by decide

theorem test_encode_is_big_endian : encode (.jsi 0x1234) = [0x60, 0x12, 0x34] := by decide

/-! ## Single steps -/

/-- A byte array that holds `bytes` from index `first` on. -/
def cells (first : Nat) : List Byte → Memory
  | [] => []
  | b :: rest => if b = 0 then cells (first + 1) rest else (first, b) :: cells (first + 1) rest

/-- A stack with these live bytes, bottom to top, on the empty stack of reset. -/
def stackOf (bytes : List Byte) : Stack := { data := cells 0 bytes, idx := BitVec.ofNat 8 (bytes.length + 255) }

/-- A run at `0x0100` with this code there and these live bytes on the stacks. -/
def at0100 (code w r : List Byte) : State :=
  { State.reset with phase := .running, mem := cells 0x0100 code, wst := stackOf w, rst := stackOf r }

/-- The live bytes of a stack, bottom to top. -/
def live (t : Stack) : List Byte := (List.range ((t.idx.toNat + 1) % 256)).map (fun i => t.slot (BitVec.ofNat 8 i))

/-- What a test looks at: the live bytes of both stacks and `pc` after one step, with an observation of its own. -/
def seen {α : Type} (look : State → α) (s : State) : Option (List Byte × List Byte × Addr × α) :=
  match step s with
  | .next t => some (live t.wst, live t.rst, t.pc, look t)
  | .fault _ => none
  | .refused _ => none

/-- One step with nothing more to look at. -/
def ran (s : State) : Option (List Byte × List Byte × Addr × Unit) := seen (fun _ => ()) s

/-- R120, with the phase and the result. -/
theorem test_brk_returns_the_pc_after_it :
    seen (fun t => (t.phase, t.result)) (at0100 [0x00] [] []) = some ([], [], 0x0101, (.hosting,
        some 0x0101)) := by decide
/-- R121. -/
theorem test_jci_taken : ran (at0100 [0x20, 0x00, 0x10] [0x01] []) =
    some ([], [], 0x0113, ()) := by decide
/-- R121, corner cases. -/
theorem test_jci_not_taken_pops_too : ran (at0100 [0x20, 0x00, 0x10] [0x00] []) =
    some ([], [], 0x0103, ()) := by decide
/-- R122, corner cases. -/
theorem test_jmi_backward_to_itself : ran (at0100 [0x40, 0xFF, 0xFD] [] []) =
    some ([], [], 0x0100, ()) := by decide
/-- R123 and scenario 6. -/
theorem test_jsi_pushes_the_return_address : ran (at0100 [0x60, 0x00, 0x02] [] []) =
    some ([], [0x01, 0x03], 0x0105, ()) := by decide
/-- R124. -/
theorem test_lit : ran (at0100 [0x80, 0x2A] [] []) =
    some ([0x2A], [], 0x0102, ()) := by decide
/-- R125. -/
theorem test_lit2 : ran (at0100 [0xA0, 0x00, 0x05] [] []) =
    some ([0x00, 0x05], [], 0x0103, ()) := by decide
/-- R126. -/
theorem test_litr : ran (at0100 [0xC0, 0x07] [] []) =
    some ([], [0x07], 0x0102, ()) := by decide
/-- R127. -/
theorem test_lit2r : ran (at0100 [0xE0, 0x12, 0x34] [] []) =
    some ([], [0x12, 0x34], 0x0103, ()) := by decide
/-- R370. -/
theorem test_inc_wraps : ran (at0100 [0x01] [0xFF] []) =
    some ([0x00], [], 0x0101, ()) := by decide
/-- R379. -/
theorem test_add2_scenario_2 : ran (at0100 [0x38] [0x00, 0x05, 0x00, 0x03] []) =
    some ([0x00, 0x08], [], 0x0101, ()) := by decide
/-- R379, corner cases. -/
theorem test_add_wraps : ran (at0100 [0x18] [0xFF, 0x01] []) =
    some ([0x00], [], 0x0101, ()) := by decide
/-- R388: a - b with b on top. -/
theorem test_sub_order : ran (at0100 [0x19] [0x05, 0x03] []) =
    some ([0x02], [], 0x0101, ()) := by decide
/-- R388, corner cases. -/
theorem test_sub2_wraps : ran (at0100 [0x39] [0x00, 0x00, 0x00, 0x01] []) =
    some ([0xFF, 0xFF], [], 0x0101, ()) := by decide
/-- R397, corner cases. -/
theorem test_mul_low_half : ran (at0100 [0x1A] [0xFF, 0xFF] []) =
    some ([0x01], [], 0x0101, ()) := by decide
/-- R406, corner cases. -/
theorem test_div2_truncates : ran (at0100 [0x3B] [0xFF, 0xFF, 0x00, 0x02] []) =
    some ([0x7F, 0xFF], [], 0x0101, ()) := by decide
/-- R406, scenario 3 corrected (C3). -/
theorem test_div_by_zero_is_zero : ran (at0100 [0x1B] [0x01, 0x00] []) =
    some ([0x00], [], 0x0101, ()) := by decide
/-- R415. -/
theorem test_and : ran (at0100 [0x1C] [0xF0, 0x3C] []) =
    some ([0x30], [], 0x0101, ()) := by decide
/-- R424. -/
theorem test_ora : ran (at0100 [0x1D] [0xF0, 0x3C] []) =
    some ([0xFC], [], 0x0101, ()) := by decide
/-- R433. -/
theorem test_eor : ran (at0100 [0x1E] [0xF0, 0x3C] []) =
    some ([0xCC], [], 0x0101, ()) := by decide
/-- R442, corner cases. -/
theorem test_sft_right_then_left : ran (at0100 [0x1F] [0xFF, 0x11] []) =
    some ([0xFE], [], 0x0101, ()) := by decide
/-- R442. -/
theorem test_sft_left : ran (at0100 [0x1F] [0x34, 0x10] []) =
    some ([0x68], [], 0x0101, ()) := by decide
/-- R130 in mode 2r. -/
theorem test_pop2r_leaves_w : ran (at0100 [0x62] [0x09] [0x01, 0x02, 0x03]) =
    some ([0x09], [0x01], 0x0101, ()) := by decide
/-- R139. -/
theorem test_nip : ran (at0100 [0x03] [0x01, 0x02] []) =
    some ([0x02], [], 0x0101, ()) := by decide
/-- R148, corner cases. -/
theorem test_swp2_keeps_byte_order : ran (at0100 [0x24] [0x12, 0x34, 0x56, 0x78] []) =
    some ([0x56, 0x78, 0x12, 0x34], [], 0x0101, ()) := by decide
/-- R157. -/
theorem test_rot : ran (at0100 [0x05] [0x01, 0x02, 0x03] []) =
    some ([0x02, 0x03, 0x01], [], 0x0101, ()) := by decide
/-- R172, C16. -/
theorem test_dup2k_grows_by_two_shorts : ran (at0100 [0xA6] [0x12, 0x34] []) =
    some ([0x12, 0x34, 0x12, 0x34, 0x12, 0x34], [], 0x0101, ()) := by decide
/-- R175, corner cases. -/
theorem test_ovrk : ran (at0100 [0x87] [0x01, 0x02] []) =
    some ([0x01, 0x02, 0x01, 0x02, 0x01], [], 0x0101, ()) := by decide
/-- R184. -/
theorem test_sth2 : ran (at0100 [0x2F] [0x12, 0x34] []) =
    some ([], [0x12, 0x34], 0x0101, ()) := by decide
/-- R191: STHkr copies from R to W. -/
theorem test_sthkr_copies_to_w : ran (at0100 [0xCF] [] [0x2A]) =
    some ([0x2A], [0x2A], 0x0101, ()) := by decide
/-- R200, corner cases. -/
theorem test_equ2_one_byte : ran (at0100 [0x28] [0x12, 0x34, 0x12, 0x34] []) =
    some ([0x01], [], 0x0101, ()) := by decide
/-- R209. -/
theorem test_neq : ran (at0100 [0x09] [0x05, 0x06] []) =
    some ([0x01], [], 0x0101, ()) := by decide
/-- R218, corner cases. -/
theorem test_gth_unsigned : ran (at0100 [0x0A] [0x80, 0x7F] []) =
    some ([0x01], [], 0x0101, ()) := by decide
/-- R227. -/
theorem test_lth_direction : ran (at0100 [0x0B] [0x02, 0x03] []) =
    some ([0x01], [], 0x0101, ()) := by decide
/-- R240: JMP at 0x0100 with top 0xFE. -/
theorem test_jmp_backward : ran (at0100 [0x0C] [0xFE] []) =
    some ([], [], 0x00FF, ()) := by decide
/-- R240, C1. -/
theorem test_jmp2_absolute : ran (at0100 [0x2C] [0x02, 0x34] []) =
    some ([], [], 0x0234, ()) := by decide
/-- R249, scenario 5, from 0x0100. -/
theorem test_jcn_takes_a_byte_beneath : ran (at0100 [0x0D] [0x05, 0x03] []) =
    some ([], [], 0x0104, ()) := by decide
/-- R251: the condition is one byte beneath a short. -/
theorem test_jcn2_not_taken : ran (at0100 [0x2D] [0x00, 0x02, 0x34] []) =
    some ([], [], 0x0101, ()) := by decide
/-- R258. -/
theorem test_jsr2 : ran (at0100 [0x2E] [0x02, 0x00] []) =
    some ([], [0x01, 0x01], 0x0200, ()) := by decide
/-- R261, D5. -/
theorem test_jsrr_pushes_on_w : ran (at0100 [0x4E] [] [0x05]) =
    some ([0x01, 0x01], [], 0x0106, ()) := by decide
/-- R270, corner cases: the low byte is the opcode itself. -/
theorem test_ldz2_at_ff_reads_0100 : ran (at0100 [0x30] [0xFF] []) =
    some ([0x00, 0x30], [], 0x0101, ()) := by decide
/-- R279, corner cases. -/
theorem test_stz2_at_ff_writes_0100 :
    seen (fun t => [t.readByte 0x00FF, t.readByte 0x0100]) (at0100 [0x31] [0x12, 0x34, 0xFF] []) = some ([], [],
        0x0101, [0x12, 0x34]) := by decide
/-- R288, corner cases: off 0xFF reads the LDR byte itself. -/
theorem test_ldr_signed : ran (at0100 [0x12] [0xFF] []) =
    some ([0x12], [], 0x0101, ()) := by decide
/-- R297. -/
theorem test_str_relative_to_pc :
    seen (fun t => [t.readByte 0x0103]) (at0100 [0x13] [0x99, 0x02] []) = some ([], [], 0x0101, [0x99]) := by decide
/-- R306, corner cases: 0xFFFF then 0x0000. -/
theorem test_lda2_wraps : ran
    { at0100 [0x34] [0xFF, 0xFF] [] with mem := [(0x0000, 0x12), (0x0100, 0x34), (0xFFFF, 0x34)] } =
    some ([0x34, 0x12], [], 0x0101, ()) := by decide
/-- R315. -/
theorem test_sta2_order_and_place :
    seen (fun t => [t.readByte 0x1234, t.readByte 0x1235]) (at0100 [0x35] [0xAB, 0xCD, 0x12, 0x34] []) = some ([],
        [], 0x0101, [0xAB, 0xCD]) := by decide
/-- R320. -/
theorem test_sta_keeps_its_operands :
    seen (fun t => [t.readByte 0x8000]) (at0100 [0x95] [0x2A, 0x80, 0x00] []) = some ([0x2A, 0x80, 0x00], [], 0x0101,
        [0x2A]) := by decide
/-- R342. -/
theorem test_dei2_pushes_the_host_value :
    seen (fun t => t.calls) { at0100 [0x36] [0x12] [] with script := [{ edits := [], act := .finish 0x4142 true }] }
        = some ([0x41, 0x42], [], 0x0101, [.dei 0x12 true]) := by decide
/-- R332, R340: the host pushes 0x99 before it returns 0x41. -/
theorem test_dei_pushes_at_the_index_the_host_left :
    seen (fun t => t.calls)
        { at0100 [0x16] [0x12] [] with script := [{ edits := [.index .work 0x00, .data .work 0x00 0x99], act := .finish 0x0041 true }] }
        = some ([0x99, 0x41], [], 0x0101, [.dei 0x12 false]) := by decide
/-- R349, R351. -/
theorem test_deo2_sends_one_short :
    seen (fun t => t.calls)
        { at0100 [0x37] [0x48, 0x49, 0x18] [] with script := [{ edits := [], act := .finish 0 false }] } = some ([],
        [], 0x0101, [.deo 0x18 0x4849 true]) := by decide
/-- R333, VD10. -/
theorem test_deo_halts_when_honoured :
    seen (fun t => (t.phase, t.result))
        { at0100 [0x17] [0x41, 0x18] [] with script := [{ edits := [], act := .finish 0 false }], deoHaltHonoured := true }
        = some ([], [], 0x0101, (.hosting, some 0x0101)) := by decide
/-- R335: the host calls run at 0x0200; the operands stay in keep mode. -/
theorem test_deok_nested_run_suspends :
    seen (fun t => (t.phase, t.suspended))
        { at0100 [0x97] [0x41, 0x18] [] with script := [{ edits := [], act := .run 0x0200 }] } = some ([0x41, 0x18],
        [], 0x0200, (.running, [{ pc := 0x0101, transaction := .deo 0x18 0x0041 false }])) := by decide
/-- R475 case 2: the host call never returns, the operands are taken, the transaction is held, and there is no next step. -/
theorem test_dei_stuck_in_its_transaction :
    let s := { at0100 [0x16] [0x12] [] with script := [{ edits := [], act := .stuck .hostNeverReturns }] }
    seen (fun t => (t.phase, t.suspended, step t)) s =
      some ([], [], 0x0101, (.stuck .hostNeverReturns, [{ pc := 0x0101, transaction := .dei 0x12 false .work }],
        .refused (.stuck .hostNeverReturns))) := rfl

/-- R54, R55: `LIT2` at `0xFFFE` takes its immediate from `0xFFFF` and `0x0000` and leaves `pc = 0x0001`. -/
theorem test_fetch_wraps :
    ran { at0100 [] [] [] with pc := 0xFFFE, mem := [(0x0000, 0x34), (0xFFFE, 0xA0), (0xFFFF, 0x12)] } =
      some ([0x12, 0x34], [], 0x0001, ()) := by decide

/-- R24, R28: a pop from index `0x00` leaves `0xFF`, and one more wraps to `0xFE`. -/
theorem test_pop_underflows : seen (fun t => t.wst.idx)
    { at0100 [0x02] [] [] with wst := { data := [], idx := 0x00 } } =
    some ([], [], 0x0101, 0xFF) := by decide

/-- R491: the first step from reset is the boot call. -/
theorem test_boot : seen (fun t => t.phase) State.reset = some ([], [], 0x0100, .running) := by decide

/-- The placed instruction is the next one run: `LIT 2a` from its table word. -/
theorem test_fetch_word : ran (State.reset.withFetchWord 16 0x2A80) = some ([0x2A], [], 0x0102, ()) := by decide

/-- R86: a line with an annotation, an instruction with an operand and a data item. -/
theorem test_assemble_line :
    assembleLine ['0','1','0','0',':',' ','L','I','T',' ','2','a',';',' ','J','S','I',' ','+','0','0','0','2',';',' ','0','0']
        =
      some [0x80, 0x2A, 0x60, 0x00, 0x02, 0x00] := by decide

/-- R83, R84: suffixes stand in the order `2`, `k`, `r`, and `BRK` takes none. -/
theorem test_mnemonics : mnemonic .add2kr = ['A','D','D','2','k','r'] ∧ byteOfMnemonic ['A','D','D','2','k','r']
    = some 0xF8 ∧
    byteOfMnemonic ['A','D','D','2','r','k'] = none ∧ byteOfMnemonic ['B','R','K','2'] = none := by decide

/-! ## Witnesses: a state that meets the hypotheses of each statement that has any -/

/-- A run whose host's next turn is `turn`, with operands `41 18` on `W`. -/
def withTurn (turn : HostTurn) : State := { at0100 [0x16] [0x41, 0x18] [] with script := [turn] }

/-- The host has the machine, inside a call of `suspended`'s innermost run, and its next turn is `turn`. -/
def hostAt (suspended : List Suspended) (turn : HostTurn) : State :=
  { at0100 [] [0x41] [] with phase := .hosting, suspended := suspended, script := [turn] }

theorem witness_DeiPushesTheHostsValue :
    (takeTurn (withTurn { edits := [.mem 0xFFFF 0x77, .index .work 0xFF], act := .finish 0xFFFF false })).1 =
      { edits := [.mem 0xFFFF 0x77, .index .work 0xFF], act := .finish 0xFFFF false } := by decide
theorem witness_DeoHandsItsValueToTheHost :
    (takeTurn (withTurn { edits := [.mem 0xFFFF 0x77, .index .work 0xFF], act := .finish 0xFFFF false })).1 =
      { edits := [.mem 0xFFFF 0x77, .index .work 0xFF], act := .finish 0xFFFF false } ∧
          (withTurn { edits := [.mem 0xFFFF 0x77, .index .work 0xFF], act := .finish 0xFFFF false }).deoHaltHonoured
          = false := by decide
theorem witness_DeoHandsItsValueToTheHost_honoured :
    (takeTurn { withTurn { edits := [.mem 0xFFFF 0x77, .index .work 0xFF], act := .finish 0xFFFF false } with deoHaltHonoured := true }).1
        =
      { edits := [.mem 0xFFFF 0x77, .index .work 0xFF], act := .finish 0xFFFF false } := by decide
theorem witness_BridgeCallSuspendsItsRunUntilTheHostReturns :
    (takeTurn (withTurn { edits := [], act := .run 0xFFFF })).1 = { edits := [], act := .run 0xFFFF } ∧
      (takeTurn (withTurn { edits := [], act := .stuck .hostStackExhausted })).1 =
        { edits := [], act := .stuck .hostStackExhausted } := by decide
theorem witness_HostReturnCompletesASuspendedDei :
    (hostAt [{ pc := 0xFFFF, transaction := .dei 0xFF true .ret }]
        { edits := [.mem 0xFFFF 0x77, .index .work 0xFF], act := .finish 0xFFFF false }).phase = .hosting ∧
      (hostAt [{ pc := 0xFFFF, transaction := .dei 0xFF true .ret }]
          { edits := [.mem 0xFFFF 0x77, .index .work 0xFF], act := .finish 0xFFFF false }).suspended =
        [{ pc := 0xFFFF, transaction := .dei 0xFF true .ret }] ∧
      (takeTurn (hostAt [{ pc := 0xFFFF, transaction := .dei 0xFF true .ret }]
          { edits := [.mem 0xFFFF 0x77, .index .work 0xFF], act := .finish 0xFFFF false })).1 =
        { edits := [.mem 0xFFFF 0x77, .index .work 0xFF], act := .finish 0xFFFF false } := by decide
theorem witness_HostReturnCompletesASuspendedDeo :
    (hostAt [{ pc := 0x0101, transaction := .deo 0x18 0x0041 false }]
        { edits := [.mem 0xFFFF 0x77, .index .work 0xFF], act := .finish 0xFFFF false }).phase = .hosting ∧
      (hostAt [{ pc := 0x0101, transaction := .deo 0x18 0x0041 false }]
          { edits := [.mem 0xFFFF 0x77, .index .work 0xFF], act := .finish 0xFFFF false }).suspended =
        [{ pc := 0x0101, transaction := .deo 0x18 0x0041 false }] ∧
      (takeTurn (hostAt [{ pc := 0x0101, transaction := .deo 0x18 0x0041 false }]
          { edits := [.mem 0xFFFF 0x77, .index .work 0xFF], act := .finish 0xFFFF false })).1 =
        { edits := [.mem 0xFFFF 0x77, .index .work 0xFF], act := .finish 0xFFFF false } := by decide
theorem witness_HostReturnCompletesASuspendedDeo_honoured :
    let s : State :=
      { hostAt [{ pc := 0x0101, transaction := .deo 0x18 0x0041 false }] { edits := [], act := .finish 0 false } with
        deoHaltHonoured := true }
    s.phase = .hosting ∧ s.suspended = [{ pc := 0x0101, transaction := .deo 0x18 0x0041 false }] ∧
      (takeTurn s).1 = { edits := [], act := .finish 0 false } ∧ s.deoHaltHonoured = true := by decide
theorem witness_VectorDeliverySavesNothing :
    (hostAt [] { edits := [], act := .run 0x0200 }).phase = .hosting ∧
      (takeTurn (hostAt [] { edits := [], act := .run 0x0200 })).1 = { edits := [], act := .run 0x0200 } := by decide
theorem witness_CoreExecutesNothingUntilTheHostActs_idle :
    (hostAt [] { edits := [], act := .finish 0 true }).phase = .hosting ∧
      (hostAt [] { edits := [], act := .finish 0 true }).suspended = [] ∧
      ∀ vector, (takeTurn (hostAt [] { edits := [], act := .finish 0 true })).1.act ≠ .run vector := ⟨rfl, rfl,
          fun _ h => (by cases h)⟩
theorem witness_CoreExecutesNothingUntilTheHostActs_stuck :
    let s := hostAt [{ pc := 0x0101, transaction := .dei 0x12 false .work }]
        { edits := [], act := .stuck .hostNeverReturns }
    s.phase = .hosting ∧ s.suspended ≠ [] ∧ (takeTurn s).1.act = .stuck .hostNeverReturns := by decide
theorem witness_EveryInstructionCompletesAndOnlyAHostCallIsStuck :
    (∀ why, State.reset.phase ≠ .stuck why) ∧
      ({ State.reset with phase := .stuck .hostNeverReturns } : State).phase
          = .stuck .hostNeverReturns := ⟨fun _ h => (by cases h), rfl⟩
theorem witness_EveryInstructionCompletesAndOnlyAHostCallIsStuck_entered :
    ∃ t, step (withTurn { edits := [], act := .stuck .hostNeverReturns }) = .next t ∧ t.phase
        = .stuck .hostNeverReturns :=
  ⟨_, rfl, by decide⟩
theorem witness_ResetIsIdleAndTheBootCallRunsAt0100 :
    ({ State.reset with mem := [(0x0100, 0x80)] } : State).phase = .created := by decide
theorem witness_StepRunsTheDecodedInstruction :
    (at0100 [0xA0, 0x12, 0x34] [] []).phase = .running ∧
      decode [(at0100 [0xA0, 0x12, 0x34] [] []).readByte 0x0100, (at0100 [0xA0, 0x12, 0x34] [] []).readByte 0x0101,
        (at0100 [0xA0, 0x12, 0x34] [] []).readByte 0x0102] = .ok (.lit2 0x1234, []) := ⟨rfl, rfl⟩
theorem witness_EncodingADecodedInstructionGivesItsBytesBack :
    decode [0xC0, 0x07, 0x00] = .ok (.litr 0x07, [0x00]) := rfl
theorem witness_DecodedFieldsAreTheOpcodeBits :
    (0xFF : Byte).toNat % 32 ≠ 0 ∧ (0x01 : Byte).toNat % 32 ≠ 0 := by decide
theorem witness_EveryStepKeepsTheInvariant :
    (at0100 [0x18] [0x12, 0x34] []).Inv ∧ ∃ t, step (at0100 [0x18] [0x12, 0x34] []) = .next t :=
  ⟨⟨by decide, by decide, by decide, fun h => (by cases h), fun _ h => (by cases h), List.Sublist.slnil⟩, _, rfl⟩
theorem witness_EveryStepKeepsTheInvariant_suspended :
    ({ hostAt [{ pc := 0x0101, transaction := .dei 0x12 false .work }] { edits := [], act := .finish 0 true } with
        calls := [.deo 0x18 0x0041 false, .dei 0x12 false] } : State).Inv :=
  ⟨by decide, by decide, by decide, fun h => (by cases h), fun _ h => (by cases h), by decide⟩
theorem witness_SuspendedRunsChangeOnlyAtTheInnermostEnd :
    ∃ t, step (hostAt [{ pc := 0x0101, transaction := .dei 0x12 false .work }]
        { edits := [], act := .finish 0 true }) = .next t :=
  ⟨_, rfl⟩
theorem witness_OnlyBrkEndsARunByDefault :
    (at0100 [0x18] [0x12, 0x34] []).phase = .running ∧ fetchInstr (at0100 [0x18] [0x12, 0x34] []) ≠ .brk ∧
      (at0100 [0x18] [0x12, 0x34] []).deoHaltHonoured = false ∧ ∃ t, step (at0100 [0x18] [0x12, 0x34] []) = .next t :=
  ⟨rfl, by decide, rfl, _, rfl⟩
theorem witness_OnlyDeviceInstructionsCallTheHostAndOnlyStoresWriteMemory_neither :
    (at0100 [0x18] [0x12, 0x34] []).phase = .running ∧ ¬ callsHost (fetchInstr (at0100 [0x18] [0x12, 0x34] [])) ∧
      ¬ storesToMemory (fetchInstr (at0100 [0x18] [0x12, 0x34] [])) ∧ ∃ t, step (at0100 [0x18] [0x12, 0x34] [])
          = .next t := by
  have h : fetchInstr (at0100 [0x18] [0x12, 0x34] []) = .add := by decide
  refine ⟨rfl, ?_, ?_, _, rfl⟩
  · rw [h]
    rintro ⟨⟨w, r, k⟩, h | h⟩ <;> cases w <;> cases r <;> cases k <;> cases h
  · rw [h]
    rintro ⟨⟨w, r, k⟩, h | h | h⟩ <;> cases w <;> cases r <;> cases k <;> cases h
theorem witness_OnlyDeviceInstructionsCallTheHostAndOnlyStoresWriteMemory_device :
    (withTurn { edits := [], act := .finish 0 true }).phase = .running ∧
      callsHost (fetchInstr (withTurn { edits := [], act := .finish 0 true })) ∧
      ∃ t, step (withTurn { edits := [], act := .finish 0 true }) = .next t :=
  ⟨rfl, ⟨{ short := false, ret := false, keep := false }, .inl (by decide)⟩, _, rfl⟩
theorem witness_KeepModeLeavesTheOperandsInPlace :
    ∃ t, exec (Instr.op .rot { short := true, ret := true, keep := true }) (at0100 [] [] [1, 2, 3, 4, 5, 6])
        = .next t :=
  ⟨_, rfl⟩
theorem witness_Repeating256TimesRestoresBothIndices : ¬ callsHost (.lit2 0x1234) := by
  rintro ⟨⟨w, r, k⟩, h | h⟩ <;> cases w <;> cases r <;> cases k <;> cases h
theorem witness_KeptPopsOnlyAdvancePc :
    (at0100 [0x82] [0x01] []).phase = .running ∧ (at0100 [0x82] [0x01] []).readByte 0x0100 = 0x82 ∧
      (at0100 [0xA2] [] []).readByte 0x0100 = 0xA2 ∧ (at0100 [0xC2] [] []).readByte 0x0100 = 0xC2 ∧
      (at0100 [0xE2] [] []).readByte 0x0100 = 0xE2 := by decide
theorem witness_StoreIsSeenByTheNextFetch :
    (at0100 [0x13] [0x80, 0x00] []).phase = .running ∧
      (at0100 [0x13] [0x80, 0x00] []).readByte (at0100 [0x13] [0x80, 0x00] []).pc = 0x13 ∧
      fromTop (at0100 [0x13] [0x80, 0x00] []).wst 0 = 0 := by decide

end Sys2Proof.Tests
end

section
/-!
PROOFS. Reset and the boot call (R41, R491). Then the assembler reads back what the disassembler writes (R13, R83 to R86),
layer by layer: hexadecimal, mnemonics, the words of a text, operand words.
-/

namespace Sys2Proof.Machine

/-! ## Reset and the boot call -/

/-- Settles O40: before the boot call the step is `startRun` at the boot entry, whose frame is the field lemmas of
`startRun`. -/
theorem resetIsIdleAndTheBootCallRunsAt0100 : Obligations.ResetIsIdleAndTheBootCallRunsAt0100 := by
  refine ⟨⟨rfl, rfl, rfl, rfl, rfl, rfl⟩, fun s hcreated => ⟨startRun Config.bootEntry s, step_created s hcreated, ?_⟩⟩
  have hmem : MemoryKept s (startRun Config.bootEntry s) := fun _ => rfl
  simpa [Config.bootEntry] using hmem

end Sys2Proof.Machine

namespace Sys2Proof

/-! ## Hexadecimal -/

theorem hexValue_hexDigit (n : Nat) (h : n < 16) : hexValue (hexDigit n) = some n := by
  revert n
  decide

theorem hexDigit_ne_space (n : Nat) (h : n < 16) : hexDigit n ≠ ' ' := by
  revert n
  decide

theorem space_notMem_hexOfByte (b : Byte) : ' ' ∉ hexOfByte b := by
  have hhi := hexDigit_ne_space (b.toNat / 16) (by omega)
  have hlo := hexDigit_ne_space (b.toNat % 16) (by omega)
  simp [hexOfByte, hhi.symm, hlo.symm]

@[simp] theorem byteOfHex_hexOfByte (b : Byte) : byteOfHex (hexOfByte b) = some b := by
  have hhi := hexValue_hexDigit (b.toNat / 16) (by omega)
  have hlo := hexValue_hexDigit (b.toNat % 16) (by omega)
  simp [hexOfByte, byteOfHex, hhi, hlo, Nat.div_add_mod]

@[simp] theorem shortOfHex_hexOfByte (hi lo : Byte) :
    shortOfHex (hexOfByte hi ++ hexOfByte lo) = some (concatBytes hi lo) := by
  have htake : (hexOfByte hi ++ hexOfByte lo).take 2 = hexOfByte hi := rfl
  have hdrop : (hexOfByte hi ++ hexOfByte lo).drop 2 = hexOfByte lo := rfl
  simp [shortOfHex, htake, hdrop]

/-! ## Mnemonics -/

theorem baseName_length (base : BitVec 5) : ∀ name ∈ baseName base, name.length = 3 := by
  revert base
  decide

theorem space_notMem_baseName (base : BitVec 5) : ∀ name ∈ baseName base, ' ' ∉ name := by
  revert base
  decide

/-- The 31 base names are distinct, so a name determines its base field. -/
theorem baseOfName_baseName (base : BitVec 5) : ∀ name ∈ baseName base, baseOfName name = some base := by
  revert base
  decide

/-- No immediate opcode's name begins with a base operation's name, so the two tables of `byteOfMnemonic` do not overlap. -/
theorem baseOfName_take_immediateNames : ∀ e ∈ immediateNames, baseOfName (e.1.take 3) = none := by
  decide

theorem byteOfMnemonic_immediateNames : ∀ e ∈ immediateNames, byteOfMnemonic e.1 = some e.2 := by
  decide

/-- Only the eight immediate opcodes have a base field without a name (R72, R73). -/
theorem mem_immediateNames_of_baseName_eq_none (op : Byte) (h : baseName (op.extractLsb' 0 5) = none) :
    ∃ e ∈ immediateNames, e.2 = op := by
  revert op
  decide

/-- A mnemonic is an immediate opcode's own name, or a base name with the byte's suffixes (R73, R83). -/
theorem mnemonicOfByte_cases (op : Byte) :
    (∃ e ∈ immediateNames, e.2 = op ∧ mnemonicOfByte op = e.1) ∨
      ∃ name ∈ baseName (op.extractLsb' 0 5), mnemonicOfByte op = name ++ suffixes op := by
  cases hname : baseName (op.extractLsb' 0 5) with
  | some name => exact .inr ⟨name, rfl, by simp only [mnemonicOfByte, hname]⟩
  | none =>
    left
    have hsome : (immediateNames.find? (fun e => e.2 == op)).isSome := by
      obtain ⟨e, he, hop⟩ := mem_immediateNames_of_baseName_eq_none op hname
      exact List.find?_isSome.2 ⟨e, he, by simp [hop]⟩
    obtain ⟨e, hfind⟩ := Option.isSome_iff_exists.1 hsome
    have hop : e.2 = op := by simpa using List.find?_some hfind
    exact ⟨e, List.mem_of_find?_eq_some hfind, hop, by simp [mnemonicOfByte, hname, hfind]⟩

theorem space_notMem_mnemonicOfByte (op : Byte) : ' ' ∉ mnemonicOfByte op := by
  rcases mnemonicOfByte_cases op with ⟨e, he, -, heq⟩ | ⟨name, hname, heq⟩
  · have hspace : ∀ e ∈ immediateNames, ' ' ∉ e.1 := by decide
    rw [heq]
    exact hspace e he
  · have hsuffixes : ' ' ∉ suffixes op := by
      unfold suffixes
      split_ifs <;> decide
    simp [heq, space_notMem_baseName _ name hname, hsuffixes]

/-- Taking a suffix off says whether it stood there, if what follows does not begin with it. -/
theorem takeSuffix_append (c : Char) (present : Bool) (rest : Text) (h : rest.head? ≠ some c) :
    takeSuffix c ((if present then [c] else []) ++ rest) = (present, rest) := by
  cases present with
  | true => simp [takeSuffix]
  | false =>
    cases rest with
    | nil => rfl
    | cons d rest =>
      have hne : d ≠ c := by simpa using h
      simp [takeSuffix, hne]

/-- An opcode byte is its base field plus the value of each of its suffixes (R71, R84). -/
theorem opcodeByte_eq_base_add_suffixes (op : Byte) :
    (op.extractLsb' 0 5).setWidth 8 + (if op.getLsbD 5 then 0x20 else 0) + (if op.getLsbD 7 then 0x80 else 0) +
      (if op.getLsbD 6 then 0x40 else 0) = op := by
  revert op
  decide

/-- A base name followed by the suffixes of an opcode byte with that base field assembles to the byte (R84). -/
theorem byteOfMnemonic_baseName_append_suffixes (op : Byte) (name : Text) (hname : name ∈ baseName (op.extractLsb' 0 5)) :
    byteOfMnemonic (name ++ suffixes op) = some op := by
  have hlen := baseName_length _ name hname
  have hbase := baseOfName_baseName _ name hname
  have htake : (name ++ suffixes op).take 3 = name := by simp [← hlen]
  have hdrop : (name ++ suffixes op).drop 3 = suffixes op := by simp [← hlen]
  have hfind : immediateNames.find? (fun e => e.1 == name ++ suffixes op) = none := by
    refine List.find?_eq_none.2 fun e he heq => ?_
    have hnone := baseOfName_take_immediateNames e he
    rw [beq_iff_eq.1 heq, htake, hbase] at hnone
    cases hnone
  have htwo := takeSuffix_append '2' (op.getLsbD 5)
    ((if op.getLsbD 7 then ['k'] else []) ++ (if op.getLsbD 6 then ['r'] else [])) (by split_ifs <;> decide)
  have hkeep := takeSuffix_append 'k' (op.getLsbD 7) (if op.getLsbD 6 then ['r'] else []) (by split_ifs <;> decide)
  have hret := takeSuffix_append 'r' (op.getLsbD 6) [] (by decide)
  rw [List.append_nil] at hret
  have hsuffixes : suffixes op = (if op.getLsbD 5 then ['2'] else []) ++
      ((if op.getLsbD 7 then ['k'] else []) ++ (if op.getLsbD 6 then ['r'] else [])) := List.append_assoc ..
  simp only [byteOfMnemonic, hfind, htake, hdrop, hbase]
  simp only [hsuffixes, htwo, hkeep, hret, List.isEmpty_nil, if_true, opcodeByte_eq_base_add_suffixes]

@[simp] theorem byteOfMnemonic_mnemonicOfByte (op : Byte) : byteOfMnemonic (mnemonicOfByte op) = some op := by
  rcases mnemonicOfByte_cases op with ⟨e, he, hop, heq⟩ | ⟨name, hname, heq⟩
  · rw [heq, byteOfMnemonic_immediateNames e he, hop]
  · rw [heq, byteOfMnemonic_baseName_append_suffixes op name hname]

theorem mnemonicOfByte_ne_nil (op : Byte) : mnemonicOfByte op ≠ [] := by
  intro hnil
  have hbyte := byteOfMnemonic_mnemonicOfByte op
  rw [hnil] at hbyte
  cases hbyte

/-! ## Words -/

theorem cutAt_of_notMem (sep : Char) (text : Text) (h : sep ∉ text) : cutAt sep text = [text] := by
  induction text with
  | nil => rfl
  | cons c rest ih =>
    obtain ⟨hc, hrest⟩ := not_or.1 (mt List.mem_cons.2 h)
    simp [cutAt, Ne.symm hc, ih hrest]

theorem cutAt_append (sep : Char) (piece rest : Text) (h : sep ∉ piece) :
    cutAt sep (piece ++ sep :: rest) = piece :: cutAt sep rest := by
  induction piece with
  | nil => simp [cutAt]
  | cons c piece ih =>
    obtain ⟨hc, hpiece⟩ := not_or.1 (mt List.mem_cons.2 h)
    simp [cutAt, Ne.symm hc, ih hpiece]

theorem wordsOf_word (word : Text) (h : ' ' ∉ word) (hne : word ≠ []) : wordsOf word = [word] := by
  simp [wordsOf, cutAt_of_notMem _ _ h, hne]

theorem wordsOf_two_words (first second : Text) (h₁ : ' ' ∉ first) (hne₁ : first ≠ []) (h₂ : ' ' ∉ second)
    (hne₂ : second ≠ []) : wordsOf (first ++ ' ' :: second) = [first, second] := by
  simp [wordsOf, cutAt_append _ _ _ h₁, cutAt_of_notMem _ _ h₂, hne₁, hne₂]

/-! ## Operand words -/

/-- The operand text without the space before it: the sign of a relative jump, then the bytes in hex (R86). -/
def operandWord (op : Byte) (imm : List Byte) : Text :=
  (if op = 0x20 ∨ op = 0x40 ∨ op = 0x60 then ['+'] else []) ++ imm.flatMap hexOfByte

theorem operandText_of_ne_nil (op : Byte) (imm : List Byte) (h : imm ≠ []) :
    operandText op imm = ' ' :: operandWord op imm := by
  simp [operandText, operandWord, h]

theorem space_notMem_operandWord (op : Byte) (imm : List Byte) : ' ' ∉ operandWord op imm := by
  have hhex : ' ' ∉ imm.flatMap hexOfByte := by simp [space_notMem_hexOfByte]
  unfold operandWord
  split_ifs <;> simp [hhex]

theorem operandWord_ne_nil (op : Byte) (imm : List Byte) (h : imm ≠ []) : operandWord op imm ≠ [] := by
  obtain ⟨b, rest, rfl⟩ := List.exists_cons_of_ne_nil h
  simp [operandWord, hexOfByte]

/-- The lengths of R77, read backwards. -/
theorem lengthOfOpcode_eq_two_iff (op : Byte) : lengthOfOpcode op = 2 ↔ op = 0x80 ∨ op = 0xC0 := by
  unfold lengthOfOpcode
  split_ifs <;> simp_all

theorem lengthOfOpcode_eq_three_iff (op : Byte) :
    lengthOfOpcode op = 3 ↔ (op = 0x20 ∨ op = 0x40 ∨ op = 0x60) ∨ op = 0xA0 ∨ op = 0xE0 := by
  revert op
  decide

theorem lengthOfOpcode_le_three (op : Byte) : lengthOfOpcode op ≤ 3 := by
  unfold lengthOfOpcode
  split_ifs <;> decide

theorem immediateOfWord_operandWord_one (op b : Byte) (h : lengthOfOpcode op = 2) :
    immediateOfWord op (operandWord op [b]) = some [b] := by
  rcases (lengthOfOpcode_eq_two_iff op).1 h with rfl | rfl <;>
    simp [immediateOfWord, operandWord, lengthOfOpcode]

theorem immediateOfWord_operandWord_two (op hi lo : Byte) (h : lengthOfOpcode op = 3) :
    immediateOfWord op (operandWord op [hi, lo]) = some [hi, lo] := by
  rcases (lengthOfOpcode_eq_three_iff op).1 h with (rfl | rfl | rfl) | rfl | rfl <;>
    simp [immediateOfWord, operandWord, lengthOfOpcode]

/-! ## Instructions -/

/-- The immediate bytes are as many as the opcode byte asks for (R70, R77). -/
theorem immediateBytes_length (i : Instr) : (immediateBytes i).length + 1 = lengthOfOpcode (opcode i) := by
  cases i <;> rfl

/-- The text of an opcode byte and as many operand bytes as it asks for assembles to those bytes: no operand is one word, an
operand is a second word that `immediateOfWord` reads back (R86). -/
theorem assembleInstr_wordsOf_text (op : Byte) (imm : List Byte) (h : imm.length + 1 = lengthOfOpcode op) :
    assembleInstr (wordsOf (mnemonicOfByte op ++ operandText op imm)) = some (op :: imm) := by
  have hspace := space_notMem_mnemonicOfByte op
  have hne := mnemonicOfByte_ne_nil op
  by_cases himm : imm = []
  · subst himm
    have hlen : lengthOfOpcode op = 1 := h.symm
    simp [operandText, wordsOf_word _ hspace hne, assembleInstr, hlen]
  · have hoperand : immediateOfWord op (operandWord op imm) = some imm := by
      match imm with
      | [] => contradiction
      | [b] => exact immediateOfWord_operandWord_one op b h.symm
      | [hi, lo] => exact immediateOfWord_operandWord_two op hi lo h.symm
      | _ :: _ :: _ :: _ =>
        have := lengthOfOpcode_le_three op
        simp only [List.length_cons] at h
        omega
    rw [operandText_of_ne_nil op imm himm,
      wordsOf_two_words _ _ hspace hne (space_notMem_operandWord op imm) (operandWord_ne_nil op imm himm)]
    simp [assembleInstr, hoperand]

/-- Settles O47, from the round trip of mnemonics and the round trip of a text given by its opcode byte and operand bytes. -/
theorem assemblingAnInstructionsTextGivesItsBytes : Obligations.AssemblingAnInstructionsTextGivesItsBytes :=
  ⟨byteOfMnemonic_mnemonicOfByte, fun i => assembleInstr_wordsOf_text (opcode i) (immediateBytes i) (immediateBytes_length i)⟩

end Sys2Proof
end

section
/-!
PROOFS. The state family (10_state.md): what a step does to the stack indices, to the canonical forms and to the run frames. First
what every opcode that calls no host does (`Moves`), then the host's turn, then the statements.
-/

namespace Sys2Proof.Machine

/-! ## What an opcode that calls no host can do -/

/-- From `s` to `t` only memory, the stacks and `pc` change; the index of each stack `k` moves by `shift k` mod 256 (R24), and
memory and stacks keep their canonical forms. -/
structure Moves (shift : StackId → Byte) (s t : State) : Prop where
  rest : RestKept s t
  idx : ∀ k, (t.stack k).idx = (s.stack k).idx + shift k
  mem : Memory.wf Config.memorySize s.mem = true → Memory.wf Config.memorySize t.mem = true
  data : ∀ k, Memory.wf Config.stackSize (s.stack k).data = true → Memory.wf Config.stackSize (t.stack k).data = true

theorem moves_refl (s : State) : Moves 0 s s where
  rest := by simp [RestKept]
  idx := by simp
  mem := id
  data _ := id

theorem restKept_trans {s t u : State} (hst : RestKept s t) (htu : RestKept t u) : RestKept s u := by
  simp_all [RestKept]

theorem Moves.trans {d e : StackId → Byte} {s t u : State} (hst : Moves d s t) (htu : Moves e t u) : Moves (d + e) s u where
  rest := restKept_trans hst.rest htu.rest
  idx k := by rw [htu.idx, hst.idx, BitVec.add_assoc, Pi.add_apply]
  mem h := htu.mem (hst.mem h)
  data k h := htu.data k (hst.data k h)

theorem moves_setPc (s : State) (p : Addr) : Moves 0 s (s.setPc p) where
  rest := by simp [RestKept]
  idx := by simp
  mem := id
  data k h := by simpa using h

theorem moves_setStack (s : State) (k : StackId) (u : Stack) (b : Byte) (hidx : u.idx = (s.stack k).idx + b)
    (hdata : Memory.wf Config.stackSize (s.stack k).data = true → Memory.wf Config.stackSize u.data = true) :
    Moves (Pi.single k b) s (s.setStack k u) where
  rest := by simp [RestKept]
  idx j := by
    by_cases hj : j = k
    · subst hj
      simp [hidx]
    · simp [hj]
  mem := by simp
  data j h := by
    by_cases hj : j = k
    · subst hj
      simpa using hdata h
    · simpa [hj] using h

/-- How far taking `n` bytes moves the active stack's index (R96). -/
def takenShift (m : Mode) (n : Nat) : Byte := if m.keep then 0 else -BitVec.ofNat 8 n

theorem moves_takenState (m : Mode) (s : State) (n : Nat) :
    Moves (Pi.single (activeStack m) (takenShift m n)) s (takenState m s n) := by
  refine moves_setStack _ _ _ _ ?_ id
  cases hk : m.keep <;> simp [takenStack, takenIdx, takenShift, hk, BitVec.sub_eq_add_neg]

theorem moves_pushBytes (s : State) (k : StackId) (bytes : List Byte) :
    Moves (Pi.single k (BitVec.ofNat 8 bytes.length)) s (s.setStack k ((s.stack k).pushBytes bytes)) :=
  moves_setStack _ _ _ _ (pushBytes_idx _ _) (wf_pushBytes _ _)

theorem moves_pushByte (s : State) (k : StackId) (v : Byte) : Moves (Pi.single k 1) s (pushByte k v s) :=
  moves_pushBytes s k [v]

theorem moves_pushShort (s : State) (k : StackId) (v : Short) : Moves (Pi.single k 2) s (pushShort k v s) :=
  moves_pushBytes s k [hiByte v, loByte v]

theorem moves_pushN (m : Mode) (s : State) (k : StackId) (v : BitVec (modeBits m)) :
    Moves (Pi.single k (BitVec.ofNat 8 (operandBytes m))) s (pushN m k v s) := by
  rw [pushN_eq, ← valueBytes_length m v]
  exact moves_pushBytes s k _

theorem wf_memWriteN (m : Mode) (s : State) (addr : Addr) (v : BitVec (modeBits m))
    (h : Memory.wf Config.memorySize s.mem = true) : Memory.wf Config.memorySize (memWriteN m s addr v).mem = true := by
  obtain ⟨w, r, k⟩ := m
  cases w
  · exact wf_writeByte _ _ _ h
  · exact wf_writeByte _ _ _ (wf_writeByte _ _ _ h)

theorem moves_memWriteN (m : Mode) (s : State) (addr : Addr) (v : BitVec (modeBits m)) :
    Moves 0 s (memWriteN m s addr v) := by
  obtain ⟨hstack, _, hrest⟩ := memWriteN_fields m s addr v
  exact { rest := hrest, idx := by simp [hstack], mem := wf_memWriteN m s addr v, data := by simp [hstack] }

/-- A base operation other than `DEI` and `DEO` moves both indices by amounts that its mode alone fixes: it takes a fixed number
of bytes, and then pushes a fixed number, sets `pc` or writes memory (R96 to R101). -/
theorem regular_moves (b : Base) (m : Mode) (hdei : b ≠ .dei) (hdeo : b ≠ .deo) :
    ∃ shift, ∀ s, Moves shift s (regular b m s) := by
  cases b with
  | dei => exact absurd rfl hdei
  | deo => exact absurd rfl hdeo
  | pop =>
    exact ⟨_, fun s => by
      simp only [regular, opPop, beginTake_eq, takeN_taken, taken_st]
      exact moves_takenState _ _ _⟩
  | inc | add | sub | mul | div | and | ora | eor | sft | nip | ldz | ldr | lda =>
    exact ⟨_, fun s => by
      simp only [regular, opInc, opAdd, opSub, opMul, opDiv, opAnd, opOra, opEor, opSft, opNip, opLdz, opLdr, opLda,
        beginTake_eq, take1_taken, take2_taken, takeN_taken, taken_st]
      exact (moves_takenState _ _ _).trans (moves_pushN _ _ _ _)⟩
  | equ | neq | gth | lth =>
    exact ⟨_, fun s => by
      simp only [regular, opEqu, opNeq, opGth, opLth, beginTake_eq, takeN_taken, taken_st]
      exact (moves_takenState _ _ _).trans (moves_pushByte _ _ _)⟩
  | swp | dup =>
    exact ⟨_, fun s => by
      simp only [regular, opSwp, opDup, beginTake_eq, takeN_taken, taken_st]
      exact ((moves_takenState _ _ _).trans (moves_pushN _ _ _ _)).trans (moves_pushN _ _ _ _)⟩
  | rot | ovr =>
    exact ⟨_, fun s => by
      simp only [regular, opRot, opOvr, beginTake_eq, takeN_taken, taken_st]
      exact (((moves_takenState _ _ _).trans (moves_pushN _ _ _ _)).trans (moves_pushN _ _ _ _)).trans (moves_pushN _ _ _ _)⟩
  | sth =>
    exact ⟨_, fun s => by
      simp only [regular, opSth, beginTake_eq, takeN_taken, taken_st]
      exact (moves_takenState _ _ _).trans (moves_pushN _ _ _ _)⟩
  | jmp =>
    exact ⟨_, fun s => by
      simp only [regular, opJmp, beginTake_eq, takeN_taken, taken_st]
      exact (moves_takenState _ _ _).trans (moves_setPc _ _)⟩
  | jcn =>
    exact ⟨_, fun s => by
      simp only [regular, opJcn, beginTake_eq, takeN_taken, take1_taken, taken_st]
      split
      · exact (moves_takenState _ _ _).trans (moves_setPc _ _)
      · exact (moves_takenState _ _ _).trans (moves_refl _)⟩
  | jsr =>
    exact ⟨_, fun s => by
      simp only [regular, opJsr, beginTake_eq, takeN_taken, taken_st]
      exact ((moves_takenState _ _ _).trans (moves_pushShort _ _ _)).trans (moves_setPc _ _)⟩
  | stz | str | sta =>
    exact ⟨_, fun s => by
      simp only [regular, opStz, opStr, opSta, beginTake_eq, take1_taken, take2_taken, takeN_taken, taken_st]
      exact (moves_takenState _ _ _).trans (moves_memWriteN _ _ _ _)⟩

/-- Every instruction but `BRK`, `DEI*` and `DEO*` moves both indices by amounts that do not depend on the state. -/
theorem exec_moves (i : Instr) (hbrk : i ≠ .brk) (hhost : ¬ callsHost i) :
    ∃ shift, ∀ s, ∃ t, exec i s = .next t ∧ Moves shift s t := by
  rcases instr_cases i with rfl | ⟨imm, rfl⟩ | ⟨imm, rfl⟩ | ⟨imm, rfl⟩ | ⟨imm, rfl⟩ | ⟨imm, rfl⟩ | ⟨imm, rfl⟩ | ⟨imm, rfl⟩ |
    ⟨b, m, rfl⟩
  · exact absurd rfl hbrk
  · refine ⟨Pi.single .work (-1) + 0, fun s => ⟨_, rfl, ?_⟩⟩
    have hpop : Moves (Pi.single .work (-1)) s (s.setStack .work (s.stack .work).pop1.2) :=
      moves_setStack _ _ _ _ (by simp [pop1_eq, BitVec.sub_eq_add_neg]) id
    split
    · exact hpop.trans (moves_setPc _ _)
    · exact hpop.trans (moves_refl _)
  · exact ⟨_, fun s => ⟨_, rfl, moves_setPc _ _⟩⟩
  · exact ⟨_, fun s => ⟨_, rfl, (moves_pushShort _ _ _).trans (moves_setPc _ _)⟩⟩
  · exact ⟨_, fun s => ⟨_, rfl, moves_pushByte _ _ _⟩⟩
  · exact ⟨_, fun s => ⟨_, rfl, moves_pushShort _ _ _⟩⟩
  · exact ⟨_, fun s => ⟨_, rfl, moves_pushByte _ _ _⟩⟩
  · exact ⟨_, fun s => ⟨_, rfl, moves_pushShort _ _ _⟩⟩
  · have hdei : b ≠ .dei := fun h => hhost ⟨m, .inl (by rw [h])⟩
    have hdeo : b ≠ .deo := fun h => hhost ⟨m, .inr (by rw [h])⟩
    obtain ⟨shift, h⟩ := regular_moves b m hdei hdeo
    exact ⟨shift, fun s => ⟨_, exec_op b m s, h s⟩⟩

/-- `DEI*` in closed form: the port is taken, and then the bridge is called (R340). -/
theorem opDei_eq (m : Mode) (s : State) :
    opDei m s = bridge (.dei (BitVec.ofNat 8 (fromTop (s.stack (activeStack m)) 0)) m.short (activeStack m))
      (takenState m s 1) := by
  simp only [opDei, beginTake_eq, take1_taken, taken_st, Nat.zero_add, fromTop_eq _ 0 (by omega), BitVec.ofNat_toNat,
    BitVec.setWidth_eq]

theorem deviceValue_toNat (m : Mode) (v : BitVec (modeBits m)) : (deviceValue m v).toNat = v.toNat := by
  obtain ⟨w, r, k⟩ := m
  cases w
  · have hv : v.toNat < 2 ^ 8 := v.isLt
    simp only [deviceValue, BitVec.toNat_setWidth]
    omega
  · rfl

/-- `DEO*` in closed form: the port and the value are taken, and then the bridge is called (R349). -/
theorem opDeo_eq (m : Mode) (s : State) :
    opDeo m s = bridge (.deo (BitVec.ofNat 8 (fromTop (s.stack (activeStack m)) 0))
      (BitVec.ofNat 16 (valueFromTop (s.stack (activeStack m)) 1 (operandBytes m))) m.short)
      (takenState m s (1 + operandBytes m)) := by
  have hvalue : deviceValue m (operandAt m (s.stack (activeStack m)) 1) =
      BitVec.ofNat 16 (valueFromTop (s.stack (activeStack m)) 1 (operandBytes m)) := by
    rw [← operandAt_toNat m _ 1 (by omega), ← deviceValue_toNat, BitVec.ofNat_toNat, BitVec.setWidth_eq]
  simp only [opDeo, beginTake_eq, take1_taken, takeN_taken, taken_st, Nat.zero_add, hvalue, fromTop_eq _ 0 (by omega),
    BitVec.ofNat_toNat, BitVec.setWidth_eq]

/-- An instruction that calls the host is one byte long, takes operands and then makes one bridge call (R336). -/
theorem exec_of_callsHost (i : Instr) (h : callsHost i) :
    i.length = 1 ∧ ∀ s, ∃ x m n, exec i s = .next (bridge x (takenState m s n)) := by
  obtain ⟨m, rfl | rfl⟩ := h
  · exact ⟨length_op .dei m, fun s => ⟨_, m, _, (exec_op .dei m s).trans (congrArg _ (opDei_eq m s))⟩⟩
  · exact ⟨length_op .deo m, fun s => ⟨_, m, _, (exec_op .deo m s).trans (congrArg _ (opDeo_eq m s))⟩⟩

/-! ## The same instruction 256 times -/

/-- `n` executions of an instruction that moves each index by a fixed amount move it by `n` times that amount. -/
theorem execTimes_idx (i : Instr) (shift : StackId → Byte)
    (h : ∀ s, ∃ t, exec i s = .next t ∧ ∀ k, (t.stack k).idx = (s.stack k).idx + shift k) (n : Nat) (s : State) :
    ∃ t, execTimes n i s = .next t ∧ ∀ k, (t.stack k).idx = (s.stack k).idx + BitVec.ofNat 8 n * shift k := by
  induction n generalizing s with
  | zero => exact ⟨s, rfl, by simp⟩
  | succ n ih =>
    obtain ⟨t, hexec, ht⟩ := h s
    obtain ⟨u, hrest, hu⟩ := ih t
    refine ⟨u, by simp [execTimes, hexec, hrest], fun k => ?_⟩
    rw [hu, ht, BitVec.ofNat_add, BitVec.add_mul, BitVec.one_mul, BitVec.add_assoc, BitVec.add_comm (shift k)]

/-- An instruction that calls no host moves both indices by amounts that do not depend on the state. -/
theorem exec_idx (i : Instr) (h : ¬ callsHost i) :
    ∃ shift : StackId → Byte, ∀ s, ∃ t, exec i s = .next t ∧ ∀ k, (t.stack k).idx = (s.stack k).idx + shift k := by
  by_cases hbrk : i = .brk
  · subst hbrk
    exact ⟨0, fun s => ⟨halt s.pc s, rfl, by simp⟩⟩
  · obtain ⟨shift, hmoves⟩ := exec_moves i hbrk h
    refine ⟨shift, fun s => ?_⟩
    obtain ⟨t, hexec, ht⟩ := hmoves s
    exact ⟨t, hexec, ht.idx⟩

/-- Settles O57: the index moves 256 times by the same amount, which is 0 mod 256. -/
theorem repeating256TimesRestoresBothIndices : Obligations.Repeating256TimesRestoresBothIndices := by
  intro i s hhost
  obtain ⟨shift, hshift⟩ := exec_idx i hhost
  obtain ⟨t, hexec, hidx⟩ := execTimes_idx i shift hshift 256 s
  have hwrap : ∀ k, (t.stack k).idx = (s.stack k).idx := by simpa using hidx
  exact ⟨t, hexec, hwrap .work, hwrap .ret⟩

/-! ## The stack primitives -/

/-- A stack whose index alone is moved to `b`. -/
theorem stackBecomes_setIdx (t : Stack) (b : Byte) : StackBecomes t (t.setIdx b) b.toNat [] :=
  stackBecomes_pushBytes t b [] (by simp)

/-- Settles O48: pushes are `pushBytes`, pops read at the index and move it, peeks only read. -/
theorem stackPrimitivesFollowTheirRules : Obligations.StackPrimitivesFollowTheirRules := by
  intro t b n v
  have hn : n.toNat < 256 := n.isLt
  have hsucc : BitVec.ofNat 8 (n.toNat + 1) = n + 1 := by
    simp [BitVec.ofNat_add]
  refine ⟨stackBecomes_pushBytes_top t [b] (by simp), ⟨?_, ?_⟩, ?_, ?_, ⟨?_, ?_⟩, ?_⟩
  · rw [fromTop_eq t 0 (by omega), pop1_eq, BitVec.sub_zero]
  · have hidx : (t.idx - 1).toNat = (t.idx.toNat + 255) % 256 := by bv_omega
    rw [pop1_eq, ← hidx]
    exact stackBecomes_setIdx t _
  · rw [fromTop_eq t _ hn.le, peek1_eq, BitVec.ofNat_toNat, BitVec.setWidth_eq]
  · rw [push2_eq_pushBytes]
    simpa using stackBecomes_pushBytes_top t [hiByte v, loByte v] (by simp)
  · rw [fromTop_eq t 0 (by omega), fromTop_eq t 1 (by omega), pop2_eq, concatBytes_toNat, BitVec.sub_zero]
    rfl
  · have hidx : (t.idx - 2).toNat = (t.idx.toNat + 254) % 256 := by bv_omega
    rw [pop2_eq, ← hidx]
    exact stackBecomes_setIdx t _
  · rw [fromTop_eq t _ hn.le, fromTop_eq t _ hn, peek2_eq, concatBytes_toNat, hsucc, BitVec.ofNat_toNat,
      BitVec.setWidth_eq]

/-! ## Memory and stacks as the host left them -/

/-- Memory and both stacks are the same in `t` as in `s`. -/
structure SameStore (s t : State) : Prop where
  mem : t.mem = s.mem
  wst : t.wst = s.wst
  rst : t.rst = s.rst

theorem SameStore.stack {s t : State} (h : SameStore s t) : ∀ k, t.stack k = s.stack k
  | .work => h.wst
  | .ret => h.rst

theorem SameStore.readByte {s t : State} (h : SameStore s t) (a : Addr) : t.readByte a = s.readByte a := by
  simp only [State.readByte, h.mem]

/-- The same writes of the host leave the same memory and stacks. -/
theorem SameStore.applyEdits {s t : State} (h : SameStore s t) (edits : List HostEdit) :
    SameStore (applyEdits s edits) (applyEdits t edits) := by
  obtain ⟨hm, hw, hr⟩ := applyEdits_congr t s edits h.mem h.wst h.rst
  exact ⟨hm, hw, hr⟩

/-- Using up the host's turn changes no byte, so its writes act as they would on the state before it. -/
theorem afterEdits_sameStore (s : State) : SameStore (applyEdits s (takeTurn s).1.edits) (afterEdits s) := by
  obtain ⟨hm, hw, hr, _⟩ := takeTurn_fields s
  exact SameStore.applyEdits ⟨hm, hw, hr⟩ _

@[simp] theorem takenState_mem (m : Mode) (s : State) (n : Nat) : (takenState m s n).mem = s.mem := by simp [takenState]
@[simp] theorem takenState_suspended (m : Mode) (s : State) (n : Nat) : (takenState m s n).suspended = s.suspended := by
  simp [takenState]
@[simp] theorem takenState_result (m : Mode) (s : State) (n : Nat) : (takenState m s n).result = s.result := by
  simp [takenState]
@[simp] theorem takenState_calls (m : Mode) (s : State) (n : Nat) : (takenState m s n).calls = s.calls := by
  simp [takenState]
@[simp] theorem takenState_script (m : Mode) (s : State) (n : Nat) : (takenState m s n).script = s.script := by
  simp [takenState]
@[simp] theorem takenState_clock (m : Mode) (s : State) (n : Nat) : (takenState m s n).clock = s.clock := by
  simp [takenState]

@[simp] theorem afterEdits_pc (s : State) : (afterEdits s).pc = s.pc := (afterEdits_fields s).1
@[simp] theorem afterEdits_phase (s : State) : (afterEdits s).phase = s.phase := (afterEdits_fields s).2.1
@[simp] theorem afterEdits_suspended (s : State) : (afterEdits s).suspended = s.suspended := by
  obtain ⟨_, _, h, _⟩ := afterEdits_fields s
  exact h
@[simp] theorem afterEdits_result (s : State) : (afterEdits s).result = s.result := by
  obtain ⟨_, _, _, h, _⟩ := afterEdits_fields s
  exact h
@[simp] theorem afterEdits_deoHaltHonoured (s : State) : (afterEdits s).deoHaltHonoured = s.deoHaltHonoured := by
  obtain ⟨_, _, _, _, h, _⟩ := afterEdits_fields s
  exact h
@[simp] theorem afterEdits_calls (s : State) : (afterEdits s).calls = s.calls := by
  obtain ⟨_, _, _, _, _, h, _⟩ := afterEdits_fields s
  exact h
@[simp] theorem afterEdits_script (s : State) : (afterEdits s).script = (takeTurn s).2.script := by
  obtain ⟨_, _, _, _, _, _, h, _⟩ := afterEdits_fields s
  exact h
@[simp] theorem afterEdits_clock (s : State) : (afterEdits s).clock = (takeTurn s).2.clock := by
  obtain ⟨_, _, _, _, _, _, _, h⟩ := afterEdits_fields s
  exact h

/-- The operand removal and the publishing of a call change nothing but the stacks, the calls and the run frames: the host's
next turn is the same. -/
theorem takeTurn_publish (x : Transaction) (m : Mode) (s : State) (n : Nat) :
    (takeTurn (publish x (takenState m s n))).1 = (takeTurn s).1 :=
  (takeTurn_congr _ _ (by simp) (by simp)).1

/-- What the host leaves in a bridge call is what its writes make of the published state (R332). -/
theorem afterEdits_publish_sameStore (x : Transaction) (m : Mode) (s : State) (n : Nat) (hn : n ≤ 256) :
    SameStore (applyEdits (published m s n x.call) (takeTurn s).1.edits) (afterEdits (publish x (takenState m s n))) := by
  obtain ⟨hm, hw, hr⟩ := published_takenState m s n x.call hn
  have hpublish : SameStore (published m s n x.call) (publish x (takenState m s n)) :=
    ⟨by simp [hm], hw.symm, hr.symm⟩
  obtain ⟨km, kw, kr⟩ := afterEdits_sameStore (publish x (takenState m s n))
  rw [takeTurn_publish] at km kw kr
  have hedits := hpublish.applyEdits (takeTurn s).1.edits
  exact ⟨km.trans hedits.mem, kw.trans hedits.wst, kr.trans hedits.rst⟩

/-! ## A bridge call that does not return in its own step -/

/-- From `s` to `t` the run of `s` has been suspended in the transaction `x`, whose call is on record, and memory and stacks are
those of `h` (R40, R332). -/
def SuspendsIn (x : Transaction) (s h t : State) : Prop :=
  t.suspended = { pc := s.pc, transaction := x } :: s.suspended ∧ t.calls = s.calls ++ [x.call] ∧
    (∀ k : StackId, t.stack k = h.stack k) ∧ (∀ a : Addr, t.readByte a = h.readByte a) ∧ t.result = s.result

theorem afterEdits_publish_suspendsIn (x : Transaction) (m : Mode) (s : State) (n : Nat) (hn : n ≤ 256) :
    SuspendsIn x s (applyEdits (published m s n x.call) (takeTurn s).1.edits)
      (afterEdits (publish x (takenState m s n))) := by
  have hstore := afterEdits_publish_sameStore x m s n hn
  exact ⟨by simp, by simp, hstore.stack, hstore.readByte, by simp⟩

/-- A host that calls `run` inside a bridge call starts a nested run, and the run that made the call is suspended (R107, R335). -/
theorem bridge_run (x : Transaction) (m : Mode) (s : State) (n : Nat) (hn : n ≤ 256) (edits : List HostEdit) (vector : Addr)
    (hturn : (takeTurn s).1 = { edits := edits, act := .run vector }) :
    let t := bridge x (takenState m s n)
    t.pc = vector ∧ t.phase = .running ∧ SuspendsIn x s (applyEdits (published m s n x.call) edits) t := by
  have hmove : bridge x (takenState m s n) = startRun vector (afterEdits (publish x (takenState m s n))) :=
    hostMove_run _ _ (by rw [takeTurn_publish, hturn])
  have h := afterEdits_publish_suspendsIn x m s n hn
  rw [hturn] at h
  rw [hmove]
  exact ⟨rfl, rfl, by simpa [SuspendsIn, State.readByte] using h⟩

/-- A host that never comes back from a bridge call leaves the machine stuck in it, the run suspended all the same (R475). -/
theorem bridge_stuck (x : Transaction) (m : Mode) (s : State) (n : Nat) (hn : n ≤ 256) (edits : List HostEdit) (why : Stuck)
    (hturn : (takeTurn s).1 = { edits := edits, act := .stuck why }) :
    let t := bridge x (takenState m s n)
    t.phase = .stuck why ∧ step t = .refused (.stuck why) ∧
      SuspendsIn x s (applyEdits (published m s n x.call) edits) t := by
  have hmove : bridge x (takenState m s n) = enterStuck why (afterEdits (publish x (takenState m s n))) :=
    hostMove_stuck _ _ (by rw [takeTurn_publish, hturn])
  have h := afterEdits_publish_suspendsIn x m s n hn
  have hphase := enterStuck_phase_cons _ why _ _ h.1
  rw [hturn] at h
  rw [hmove]
  exact ⟨hphase, step_stuck _ _ hphase, by simpa [SuspendsIn, State.readByte] using h⟩

/-- Settles O28: `DEI*` and `DEO*` are bridge calls after one and `1 + N` bytes taken, and the two endings are `bridge_run` and
`bridge_stuck`. -/
theorem bridgeCallSuspendsItsRunUntilTheHostReturns : Obligations.BridgeCallSuspendsItsRunUntilTheHostReturns := by
  intro m s edits
  have hdei := (exec_op .dei m s).trans (congrArg _ (opDei_eq m s))
  have hdeo := (exec_op .deo m s).trans (congrArg _ (opDeo_eq m s))
  have hbytes : 1 + operandBytes m ≤ 256 := by
    have := operandBytes_le m
    omega
  refine ⟨fun vector hturn => ⟨⟨_, hdei, ?_⟩, ⟨_, hdeo, ?_⟩⟩, fun why hturn => ⟨⟨_, hdei, ?_⟩, ⟨_, hdeo, ?_⟩⟩⟩
  · exact bridge_run _ m s 1 (by omega) edits vector hturn
  · exact bridge_run _ m s _ hbytes edits vector hturn
  · exact bridge_stuck _ m s 1 (by omega) edits why hturn
  · exact bridge_stuck _ m s _ hbytes edits why hturn

/-! ## The host returns to a suspended run -/

/-- A returned `DEI*` pushes the value's two bytes, or its low byte alone (R340, D12). -/
theorem finishTransaction_dei (port : Byte) (wide : Bool) (target : StackId) (value : Short) (c : Bool) (s : State) :
    finishTransaction (.dei port wide target) value c s = s.setStack target
      ((s.stack target).pushBytes (if wide then [hiByte value, loByte value] else [loByte value])) := by
  cases wide <;> rfl

/-- A returned `DEO*` ends its run on an honoured false signal, and does nothing otherwise (R333, D7). -/
theorem finishTransaction_deo (port : Byte) (sent : Short) (wide : Bool) (value : Short) (c : Bool) (s : State) :
    finishTransaction (.deo port sent wide) value c s =
      if s.deoHaltHonoured = true ∧ c = false then halt s.pc s else s := by
  simp [finishTransaction]

/-- What finishing a transaction leaves as it is. -/
theorem finishTransaction_fields (x : Transaction) (value : Short) (c : Bool) (s : State) :
    (finishTransaction x value c s).mem = s.mem ∧ (finishTransaction x value c s).pc = s.pc ∧
      (finishTransaction x value c s).suspended = s.suspended ∧ (finishTransaction x value c s).calls = s.calls ∧
      (finishTransaction x value c s).deoHaltHonoured = s.deoHaltHonoured ∧
      (finishTransaction x value c s).script = s.script ∧ (finishTransaction x value c s).clock = s.clock := by
  cases x with
  | dei port wide target => simp [finishTransaction_dei]
  | deo port sent wide =>
    rw [finishTransaction_deo]
    split <;> simp

/-- The run `f` goes on: it executes at the `pc` it had, and `rest` are the runs still suspended (R335). -/
def goOn (f : Suspended) (rest : List Suspended) (s : State) : State :=
  { s with suspended := rest, pc := f.pc, phase := .running }

theorem goOn_stack (f : Suspended) (rest : List Suspended) (s : State) (k : StackId) :
    (goOn f rest s).stack k = s.stack k := by
  cases k <;> rfl

theorem resume_eq (s : State) (f : Suspended) (rest : List Suspended) (value : Short) (c : Bool) (h : s.suspended = f :: rest) :
    resume value c s = finishTransaction f.transaction value c (goOn f rest s) :=
  resume_cons s f rest value c h

theorem step_finish (s : State) (f : Suspended) (rest : List Suspended) (edits : List HostEdit) (value : Short) (c : Bool)
    (hphase : s.phase = .hosting) (hsuspended : s.suspended = f :: rest)
    (hturn : (takeTurn s).1 = { edits := edits, act := .finish value c }) :
    step s = .next (finishTransaction f.transaction value c (goOn f rest (afterEdits s))) := by
  rw [step_hosting s hphase, hostMove_finish s value c (by rw [hturn]),
    resume_eq _ f rest _ _ ((afterEdits_suspended s).trans hsuspended)]

/-- The bytes that a returned `DEI*` pushes, as numbers. -/
theorem returnedBytes_toNat (wide : Bool) (value : Short) :
    (if wide then [hiByte value, loByte value] else [loByte value]).map BitVec.toNat =
      bytesOf (if wide then 2 else 1) value.toNat := by
  cases wide
  · simp [bytesOf]
  · exact short_bytesOf value

/-- Settles O35: the run goes on, and what finishing a `DEI*` adds is one push. -/
theorem hostReturnCompletesASuspendedDei : Obligations.HostReturnCompletesASuspendedDei := by
  intro s pc port wide target rest edits value c hphase hsuspended hturn
  have hstore := afterEdits_sameStore s
  rw [hturn] at hstore
  have hpush := stackBecomes_pushBytes_top ((afterEdits s).stack target)
    (if wide then [hiByte value, loByte value] else [loByte value]) (by split <;> simp)
  rw [returnedBytes_toNat, hstore.stack] at hpush
  refine ⟨_, step_finish s _ rest edits value c hphase hsuspended hturn, ?_⟩
  rw [finishTransaction_dei]
  refine ⟨?_, fun k hk => ?_, fun a => ?_, ?_⟩
  · rw [setStack_stack_same, goOn_stack, hstore.stack]
    exact hpush
  · rw [setStack_stack_other _ _ _ _ hk, goOn_stack, hstore.stack]
  · rw [setStack_readByte]
    exact hstore.readByte a
  · simp [goOn]

/-- Settles O36: the run goes on, and finishing a `DEO*` adds at most the end of that run. -/
theorem hostReturnCompletesASuspendedDeo : Obligations.HostReturnCompletesASuspendedDeo := by
  intro s pc port sent wide rest edits value c hphase hsuspended hturn
  have hstore := afterEdits_sameStore s
  rw [hturn] at hstore
  refine ⟨_, step_finish s _ rest edits value c hphase hsuspended hturn, ?_⟩
  have hhonoured : (goOn { pc := pc, transaction := .deo port sent wide } rest (afterEdits s)).deoHaltHonoured =
      s.deoHaltHonoured := afterEdits_deoHaltHonoured s
  rw [finishTransaction_deo, hhonoured]
  split
  · exact ⟨fun k => by rw [halt_stack, goOn_stack, hstore.stack], hstore.readByte, by simp [goOn]⟩
  · exact ⟨fun k => by rw [goOn_stack, hstore.stack], hstore.readByte, by simp [goOn]⟩

/-! ## A host that does not let the core run -/

/-- A turn that leaves the core idle only makes its writes (R474, log 11). -/
theorem hostMove_idle (s : State) (hidle : s.suspended = []) (hrun : ∀ vector, (takeTurn s).1.act ≠ .run vector) :
    hostMove s = afterEdits s := by
  have hnone : (afterEdits s).suspended = [] := (afterEdits_suspended s).trans hidle
  cases hact : (takeTurn s).1.act with
  | run vector => exact absurd hact (hrun vector)
  | finish value c => rw [hostMove_finish s value c hact, resume_nil _ _ _ hnone]
  | stuck why => rw [hostMove_stuck s why hact, enterStuck_nil _ _ hnone]

/-- Settles O38: an idle core stays as the writes leave it, and inside a bridge call only the phase changes. -/
theorem coreExecutesNothingUntilTheHostActs : Obligations.CoreExecutesNothingUntilTheHostActs := by
  intro s hphase hact
  have hstore := afterEdits_sameStore s
  by_cases hidle : s.suspended = []
  · have hrun : ∀ vector, (takeTurn s).1.act ≠ .run vector := by
      rcases hact with ⟨_, hrun⟩ | ⟨why, hstuck⟩
      · exact hrun
      · simp [hstuck]
    refine ⟨afterEdits s, by rw [step_hosting s hphase, hostMove_idle s hidle hrun], ?_, ?_, hstore.stack, hstore.readByte, ?_⟩
    · simp [hidle, hphase]
    · simp
    · simp
  · obtain ⟨why, hstuck⟩ : ∃ why, (takeTurn s).1.act = .stuck why := by
      rcases hact with ⟨hnone, _⟩ | hstuck
      · exact absurd hnone hidle
      · exact hstuck
    have hstuckPhase : (enterStuck why (afterEdits s)).phase = .stuck why := by simp [hidle]
    refine ⟨enterStuck why (afterEdits s), by rw [step_hosting s hphase, hostMove_stuck s why hstuck], ?_, ?_, fun k => ?_,
      hstore.readByte, ?_⟩
    · rw [if_neg hidle]
      exact ⟨why, hstuck, hstuckPhase, step_stuck _ _ hstuckPhase⟩
    · simp
    · rw [enterStuck_stack, hstore.stack]
    · simp

/-! ## The run frames -/

/-- One turn of the host makes no call and keeps the suspended runs, or takes the innermost off and leaves its `pc` (R335). -/
theorem hostMove_frames (s : State) : (hostMove s).calls = s.calls ∧
    ((hostMove s).suspended = s.suspended ∨
      ∃ f, s.suspended = f :: (hostMove s).suspended ∧ (hostMove s).pc = f.pc) := by
  cases hact : (takeTurn s).1.act with
  | run vector => simp [hostMove_run s vector hact]
  | stuck why => simp [hostMove_stuck s why hact]
  | finish value c =>
    rw [hostMove_finish s value c hact]
    cases hsuspended : s.suspended with
    | nil => simp [resume_nil, hsuspended]
    | cons f rest =>
      rw [resume_eq _ f rest _ _ ((afterEdits_suspended s).trans hsuspended)]
      obtain ⟨_, hpc, hrest, hcalls, _⟩ := finishTransaction_fields f.transaction value c (goOn f rest (afterEdits s))
      exact ⟨hcalls.trans (afterEdits_calls s), .inr ⟨f, by rw [hrest]; rfl, hpc⟩⟩

/-- A bridge call makes its call and keeps the suspended runs, when the host finishes in the same step, or suspends the run that
made it (R332, R499). -/
theorem bridge_frames (x : Transaction) (s : State) : (bridge x s).calls = s.calls ++ [x.call] ∧
    ((bridge x s).suspended = s.suspended ∨ (bridge x s).suspended = { pc := s.pc, transaction := x } :: s.suspended) := by
  obtain ⟨hcalls, hkept | ⟨f, htaken, _⟩⟩ := hostMove_frames (publish x s)
  · exact ⟨hcalls, .inr hkept⟩
  · exact ⟨hcalls, .inl (List.cons.inj htaken).2.symm⟩

/-! ## What a step can do -/

/-- The next states of `s`: one case for each kind of step. The instruction's own cases act on the state whose `pc` is past its
bytes (R90, R91). -/
inductive NextState (s : State) : State → Prop
  /-- The boot call (R491). -/
  | boot (hphase : s.phase = .created) : NextState s (startRun Config.bootEntry s)
  /-- One turn of the host (R334). -/
  | turn (hphase : s.phase = .hosting) : NextState s (hostMove s)
  /-- `BRK` (R104, R120). -/
  | brk (hphase : s.phase = .running) : NextState s (halt (s.advancePc 1).pc (s.advancePc 1))
  /-- `DEI*` or `DEO*`: `n` bytes taken, and a bridge call (R336). -/
  | call (hphase : s.phase = .running) (x : Transaction) (m : Mode) (n : Nat) :
      NextState s (bridge x (takenState m (s.advancePc 1) n))
  /-- Any other instruction, of `length` bytes (R101). -/
  | moves (hphase : s.phase = .running) (length : Nat) (shift : StackId → Byte) (t : State)
      (hmoves : Moves shift (s.advancePc length) t) : NextState s t

/-- A step does what one of the cases of `NextState` says. -/
theorem nextState_of_step {s t : State} (hstep : step s = .next t) : NextState s t := by
  cases hphase : s.phase with
  | created =>
    rw [step_created s hphase] at hstep
    cases hstep
    exact .boot hphase
  | stuck why =>
    rw [step_stuck s why hphase] at hstep
    cases hstep
  | hosting =>
    rw [step_hosting s hphase] at hstep
    cases hstep
    exact .turn hphase
  | running =>
    rw [step_running s hphase] at hstep
    by_cases hhost : callsHost (fetchInstr s)
    · obtain ⟨hlength, hbridge⟩ := exec_of_callsHost _ hhost
      obtain ⟨x, m, n, hexec⟩ := hbridge (s.advancePc (fetchInstr s).length)
      rw [hexec, hlength] at hstep
      cases hstep
      exact .call hphase x m n
    · by_cases hbrk : fetchInstr s = .brk
      · rw [hbrk] at hstep
        cases hstep
        exact .brk hphase
      · obtain ⟨shift, hmoves⟩ := exec_moves _ hbrk hhost
        obtain ⟨u, hexec, hu⟩ := hmoves (s.advancePc (fetchInstr s).length)
        rw [hexec] at hstep
        cases hstep
        exact .moves hphase _ shift _ hu

/-- Settles O53: a host turn is `hostMove_frames`, a bridge call is `bridge_frames`, and nothing else touches a run frame. -/
theorem suspendedRunsChangeOnlyAtTheInnermostEnd : Obligations.SuspendedRunsChangeOnlyAtTheInnermostEnd := by
  intro s t hstep
  cases nextState_of_step hstep with
  | boot => exact .inl rfl
  | brk => exact .inl rfl
  | moves _ length shift t hmoves =>
    obtain ⟨_, hkept, _⟩ := hmoves.rest
    exact .inl hkept
  | turn hphase =>
    obtain ⟨hcalls, hkept | ⟨f, htaken, hpc⟩⟩ := hostMove_frames s
    · exact .inl hkept
    · exact .inr (.inr ⟨f, hphase, htaken, hpc, hcalls⟩)
  | call hphase x m n =>
    obtain ⟨hcalls, hkept | hsuspends⟩ := bridge_frames x (takenState m (s.advancePc 1) n)
    · exact .inl (by simpa using hkept)
    · exact .inr (.inl ⟨x, hphase, by simpa using hsuspends, by simpa using hcalls⟩)

/-! ## The invariant -/

theorem inv_of_moves {shift : StackId → Byte} {s t : State} (hmoves : Moves shift s t) (hs : s.Inv) : t.Inv := by
  obtain ⟨hphase, hsuspended, hresult, _, hcalls, _⟩ := hmoves.rest
  exact { mem := hmoves.mem hs.mem
          wst := hmoves.data .work hs.wst
          rst := hmoves.data .ret hs.rst
          created := by rw [hphase, hsuspended, hresult, hcalls]; exact hs.created
          stuckInCall := by rw [hphase, hsuspended]; exact hs.stuckInCall
          asked := by rw [hsuspended, hcalls]; exact hs.asked }

theorem inv_startRun (p : Addr) {s : State} (hs : s.Inv) : (startRun p s).Inv :=
  { mem := hs.mem, wst := hs.wst, rst := hs.rst, created := by simp, stuckInCall := by simp, asked := hs.asked }

theorem inv_halt (p : Addr) {s : State} (hs : s.Inv) : (halt p s).Inv :=
  { mem := hs.mem, wst := hs.wst, rst := hs.rst, created := by simp, stuckInCall := by simp, asked := hs.asked }

/-- The new suspended run's call is the last one made, as `asked` wants. -/
theorem inv_publish (x : Transaction) {s : State} (hs : s.Inv) : (publish x s).Inv :=
  { mem := hs.mem, wst := hs.wst, rst := hs.rst, created := by simp, stuckInCall := by simp
    asked := by simpa using hs.asked }

theorem inv_afterEdits {s : State} (hs : s.Inv) : (afterEdits s).Inv := by
  obtain ⟨hm, hw, hr, _⟩ := takeTurn_fields s
  obtain ⟨hmem, hwst, hrst⟩ := wf_applyEdits (takeTurn s).2 (takeTurn s).1.edits (by rw [hm]; exact hs.mem)
    (by rw [hw]; exact hs.wst) (by rw [hr]; exact hs.rst)
  exact { mem := hmem, wst := hwst, rst := hrst
          created := by simpa using hs.created
          stuckInCall := by simpa using hs.stuckInCall
          asked := by simpa using hs.asked }

/-- The machine gets stuck only where a run is suspended. -/
theorem inv_enterStuck (why : Stuck) {s : State} (hs : s.Inv) : (enterStuck why s).Inv := by
  by_cases hidle : s.suspended = []
  · rw [enterStuck_nil s why hidle]
    exact hs
  · exact { mem := hs.mem, wst := hs.wst, rst := hs.rst, created := by simp [hidle], stuckInCall := by simp [hidle]
            asked := hs.asked }

/-- The runs that stay suspended wait on calls made, as they did beneath the innermost one. -/
theorem inv_goOn (f : Suspended) (rest : List Suspended) {s : State} (hs : s.Inv) (hsuspended : s.suspended = f :: rest) :
    (goOn f rest s).Inv := by
  have hasked := hs.asked
  rw [hsuspended, List.reverse_cons, List.map_append] at hasked
  exact { mem := hs.mem, wst := hs.wst, rst := hs.rst, created := by simp [goOn], stuckInCall := by simp [goOn]
          asked := (List.sublist_append_left _ _).trans hasked }

theorem inv_finishTransaction (x : Transaction) (value : Short) (c : Bool) {s : State} (hs : s.Inv) :
    (finishTransaction x value c s).Inv := by
  cases x with
  | dei port wide target =>
    rw [finishTransaction_dei]
    exact inv_of_moves (moves_pushBytes _ _ _) hs
  | deo port sent wide =>
    rw [finishTransaction_deo]
    split
    · exact inv_halt _ hs
    · exact hs

theorem inv_resume (value : Short) (c : Bool) {s : State} (hs : s.Inv) : (resume value c s).Inv := by
  cases hsuspended : s.suspended with
  | nil =>
    rw [resume_nil s value c hsuspended]
    exact hs
  | cons f rest =>
    rw [resume_eq s f rest value c hsuspended]
    exact inv_finishTransaction _ _ _ (inv_goOn f rest hs hsuspended)

theorem inv_hostMove {s : State} (hs : s.Inv) : (hostMove s).Inv := by
  cases hact : (takeTurn s).1.act with
  | run vector =>
    rw [hostMove_run s vector hact]
    exact inv_startRun _ (inv_afterEdits hs)
  | finish value c =>
    rw [hostMove_finish s value c hact]
    exact inv_resume _ _ (inv_afterEdits hs)
  | stuck why =>
    rw [hostMove_stuck s why hact]
    exact inv_enterStuck _ (inv_afterEdits hs)

theorem inv_advancePc (n : Nat) {s : State} (hs : s.Inv) : (s.advancePc n).Inv :=
  inv_of_moves (moves_setPc _ _) hs

/-- Settles O50: each kind of step keeps the invariant. -/
theorem everyStepKeepsTheInvariant : Obligations.EveryStepKeepsTheInvariant := by
  intro s t hs hstep
  cases nextState_of_step hstep with
  | boot => exact inv_startRun _ hs
  | turn => exact inv_hostMove hs
  | brk => exact inv_halt _ (inv_advancePc 1 hs)
  | call _ x m n => exact inv_hostMove (inv_publish x (inv_of_moves (moves_takenState m _ n) (inv_advancePc 1 hs)))
  | moves _ length shift t hmoves => exact inv_of_moves hmoves (inv_advancePc length hs)

/-- Settles O51: at reset nothing is listed in memory or a stack, and no run is suspended. -/
theorem resetMeetsTheInvariant : Obligations.ResetMeetsTheInvariant where
  mem := wf_nil _
  wst := wf_nil _
  rst := wf_nil _
  created _ := ⟨rfl, rfl, rfl⟩
  stuckInCall _ hstuck := nomatch hstuck
  asked := List.nil_sublist _

end Sys2Proof.Machine
end

section
/-!
PROOFS. The memory family (20_memory.md): the reads and writes of memory, the fetch, and which instructions call the host or
change a byte of memory.
-/

namespace Sys2Proof.Machine

/-! ## Reads and writes -/

/-- Settles O49: the value of a read is `valueAt`, and a write is `MemoryBecomes` for the bytes of the value. -/
theorem memoryPrimitivesAreBigEndianAndWrap : Obligations.MemoryPrimitivesAreBigEndianAndWrap := by
  intro s addr b v
  have hbyte : bytesOf 1 b.toNat = [b.toNat] := (byte_bytesOf b).symm
  have hshort : bytesOf 2 v.toNat = [v.toNat / 256, v.toNat % 256] := by simp [← short_bytesOf]
  refine ⟨(byteAt_addr s addr).symm, ?_, ?_, ?_⟩
  · exact memReadN_toNat ⟨true, false, false⟩ s addr
  · rw [← hbyte]
    exact memoryBecomes_memWrite1 s addr b
  · rw [← hshort]
    exact memoryBecomes_memWrite2 s addr v

/-! ## The fetch -/

/-- The encoding of an instruction is as long as its opcode byte says (R70, R77). -/
theorem encode_length (i : Instr) : (encode i).length = i.length := immediateBytes_length i

/-- The three bytes at `pc` always decode, to the instruction that the step fetches (R55, R90, R91). -/
theorem fetchInstr_of_decode {s : State} {i : Instr} {rest : List Byte}
    (h : decode [s.readByte s.pc, s.readByte (s.pc + 1), s.readByte (s.pc + 2)] = .ok (i, rest)) : fetchInstr s = i := by
  have henough : ¬ 3 < lengthOfOpcode (s.readByte s.pc) := (lengthOfOpcode_le_three _).not_gt
  rw [decode, List.length_cons, List.length_singleton, if_neg henough] at h
  cases h
  rfl

/-- Settles O41: the decoded instruction is the one fetched, and its encoding has the length `pc` is moved by. -/
theorem stepRunsTheDecodedInstruction : Obligations.StepRunsTheDecodedInstruction := by
  intro s i rest hphase hdecode
  rw [step_running s hphase, fetchInstr_of_decode hdecode, encode_length]
  rfl

theorem opcode_op (b : Base) (m : Mode) : opcode (Instr.op b m) = opcodeByte (baseNumber b) m :=
  List.head_eq_of_cons_eq (encode_op b m)

/-- Checked byte by byte: all 256 opcode bytes are distinct instructions (R78). -/
theorem opcode_decodeBytes_zero : ∀ op : Byte, opcode (decodeBytes op 0 0) = op := by decide

/-- What a byte decodes to has that byte as its opcode, whatever follows: no bit of it is dropped (R74, R79). The byte is that of
a base operation or of an immediate opcode, and either decodes alike before any two bytes. -/
theorem opcode_decodeBytes (op b1 b2 : Byte) : opcode (decodeBytes op b1 b2) = op := by
  have hop := opcode_decodeBytes_zero op
  rcases instr_cases (decodeBytes op 0 0) with h | ⟨_, h⟩ | ⟨_, h⟩ | ⟨_, h⟩ | ⟨_, h⟩ | ⟨_, h⟩ | ⟨_, h⟩ | ⟨_, h⟩ | ⟨b, m, h⟩
  on_goal 9 =>
    rw [h, opcode_op] at hop
    rw [← hop, decodeBytes_opcodeByte, opcode_op]
  all_goals
    simp only [h, opcode_brk, opcode_jci, opcode_jmi, opcode_jsi, opcode_lit, opcode_lit2, opcode_litr, opcode_lit2r] at hop
    subst hop
    rfl

theorem opcode_fetchInstr (s : State) : opcode (fetchInstr s) = s.readByte s.pc := opcode_decodeBytes _ _ _

/-! ## A store seen by the next fetch -/

theorem relativeAddr_zero (pc : Addr) : relativeAddr pc 0 = pc := by
  simp [relativeAddr]

/-- `STR*` in closed form: the offset is on top, the value beneath it (R297, D4). -/
theorem opStr_eq (m : Mode) (s : State) :
    opStr m s = memWriteN m (takenState m s (1 + operandBytes m))
      (relativeAddr s.pc ((s.stack (activeStack m)).slot (s.stack (activeStack m)).idx))
      (operandAt m (s.stack (activeStack m)) 1) := by
  simp only [opStr, beginTake_eq, take1_taken, takeN_taken, taken_st, takenState_pc, Nat.zero_add, BitVec.sub_zero]

/-- A step at `STR`: `pc` moves past it, and the byte beneath the offset goes to the address that the offset gives (R298). -/
theorem step_str (s : State) (hphase : s.phase = .running) (hop : s.readByte s.pc = 0x13) :
    step s = .next ((takenState ⟨false, false, false⟩ (s.advancePc 1) 2).writeByte
      (relativeAddr (s.pc + 1) (s.wst.slot s.wst.idx)) (s.wst.slot (s.wst.idx - 1))) := by
  have hfetch : fetchInstr s = Instr.op .str ⟨false, false, false⟩ := by
    rw [fetchInstr, hop]
    exact decodeBytes_opcodeByte .str ⟨false, false, false⟩ _ _
  rw [step_running s hphase, hfetch, length_op, exec_op, regular, opStr_eq]
  rfl

/-- Settles O60: with a zero offset the store of `step_str` goes to the new `pc`, where the next fetch reads it. -/
theorem storeIsSeenByTheNextFetch : Obligations.StoreIsSeenByTheNextFetch := by
  intro s hphase hop hoffset
  have hzero : s.wst.slot s.wst.idx = 0 := by
    rw [fromTop_eq _ 0 (by omega), BitVec.sub_zero] at hoffset
    exact BitVec.eq_of_toNat_eq hoffset
  have hvalue : (s.wst.slot (s.wst.idx - 1)).toNat = fromTop s.wst 1 := (fromTop_eq s.wst 1 (by omega)).symm
  have hstep := step_str s hphase hop
  rw [hzero, relativeAddr_zero] at hstep
  refine ⟨_, hstep, by simpa [takenState] using hphase, by simp, ?_, ?_⟩
  · simpa [readByte_writeByte] using hvalue
  · simpa [opcode_fetchInstr, readByte_writeByte] using hvalue

/-! ## Which instructions change memory -/

@[simp] theorem pushByte_mem (k : StackId) (v : Byte) (s : State) : (pushByte k v s).mem = s.mem := setStack_mem _ _ _
@[simp] theorem pushShort_mem (k : StackId) (v : Short) (s : State) : (pushShort k v s).mem = s.mem := setStack_mem _ _ _
@[simp] theorem pushN_mem (m : Mode) (k : StackId) (v : BitVec (modeBits m)) (s : State) :
    (pushN m k v s).mem = s.mem := by
  rw [pushN_eq, setStack_mem]

/-- A base operation that neither stores nor calls the host only pops, pushes and sets `pc` (R56). -/
theorem regular_mem (b : Base) (m : Mode) (s : State) (hhost : ¬ callsHost (Instr.op b m))
    (hstore : ¬ storesToMemory (Instr.op b m)) : (regular b m s).mem = s.mem := by
  cases b with
  | dei => exact absurd ⟨m, .inl rfl⟩ hhost
  | deo => exact absurd ⟨m, .inr rfl⟩ hhost
  | stz => exact absurd ⟨m, .inl rfl⟩ hstore
  | str => exact absurd ⟨m, .inr (.inl rfl)⟩ hstore
  | sta => exact absurd ⟨m, .inr (.inr rfl)⟩ hstore
  | inc | add | sub | mul | div | and | ora | eor | sft =>
    simp [regular, opInc, opAdd, opSub, opMul, opDiv, opAnd, opOra, opEor, opSft, beginTake_eq, take1_taken, takeN_taken]
  | equ | neq | gth | lth => simp [regular, opEqu, opNeq, opGth, opLth, beginTake_eq, takeN_taken]
  | pop | nip | swp | rot | dup | ovr | sth =>
    simp [regular, opPop, opNip, opSwp, opRot, opDup, opOvr, opSth, beginTake_eq, takeN_taken]
  | ldz | ldr | lda => simp [regular, opLdz, opLdr, opLda, beginTake_eq, take1_taken, take2_taken]
  | jmp | jsr => simp [regular, opJmp, opJsr, beginTake_eq, takeN_taken]
  | jcn =>
    simp only [regular, opJcn, beginTake_eq, takeN_taken, take1_taken, taken_st]
    split <;> simp

/-- An instruction that neither stores nor calls the host changes no byte of memory (R56). -/
theorem exec_mem {i : Instr} {s t : State} (hexec : exec i s = .next t) (hhost : ¬ callsHost i)
    (hstore : ¬ storesToMemory i) : t.mem = s.mem := by
  rcases instr_cases i with rfl | ⟨imm, rfl⟩ | ⟨imm, rfl⟩ | ⟨imm, rfl⟩ | ⟨imm, rfl⟩ | ⟨imm, rfl⟩ | ⟨imm, rfl⟩ | ⟨imm, rfl⟩ |
    ⟨b, m, rfl⟩
  on_goal 9 =>
    rw [exec_op] at hexec
    cases hexec
    exact regular_mem b m s hhost hstore
  all_goals cases hexec
  on_goal 2 => split
  all_goals rfl

/-! ## Which instructions call the host -/

/-- An instruction that does not call the host makes no call and keeps the halt parameter (R101, R336). -/
theorem exec_keeps_calls {i : Instr} {s t : State} (hexec : exec i s = .next t) (hhost : ¬ callsHost i) :
    t.calls = s.calls ∧ t.deoHaltHonoured = s.deoHaltHonoured := by
  by_cases hbrk : i = .brk
  · subst hbrk
    cases hexec
    exact ⟨rfl, rfl⟩
  · obtain ⟨shift, hmoves⟩ := exec_moves i hbrk hhost
    obtain ⟨u, hu, hmove⟩ := hmoves s
    obtain ⟨_, _, _, hhonoured, hcalls, _⟩ := hmove.rest
    cases hu.symm.trans hexec
    exact ⟨hcalls, hhonoured⟩

@[simp] theorem resume_deoHaltHonoured (value : Short) (c : Bool) (s : State) :
    (resume value c s).deoHaltHonoured = s.deoHaltHonoured := by
  cases hsuspended : s.suspended with
  | nil => rw [resume_nil s value c hsuspended]
  | cons f rest =>
    obtain ⟨_, _, _, _, hhonoured, _⟩ := finishTransaction_fields f.transaction value c (goOn f rest s)
    rw [resume_eq s f rest value c hsuspended]
    exact hhonoured

/-- No turn of the host writes the halt parameter (R333, R334). -/
theorem hostMove_deoHaltHonoured (s : State) : (hostMove s).deoHaltHonoured = s.deoHaltHonoured := by
  cases hact : (takeTurn s).1.act with
  | run vector => simp [hostMove_run s vector hact]
  | finish value c => simp [hostMove_finish s value c hact]
  | stuck why => simp [hostMove_stuck s why hact]

theorem bridge_deoHaltHonoured (x : Transaction) (s : State) : (bridge x s).deoHaltHonoured = s.deoHaltHonoured :=
  hostMove_deoHaltHonoured (publish x s)

/-- An instruction that calls the host makes one call, and keeps the halt parameter (R336). -/
theorem exec_calls_once {i : Instr} {s t : State} (hexec : exec i s = .next t) (hhost : callsHost i) :
    (∃ c : HostCall, t.calls = s.calls ++ [c]) ∧ t.deoHaltHonoured = s.deoHaltHonoured := by
  obtain ⟨_, hbridge⟩ := exec_of_callsHost i hhost
  obtain ⟨x, m, n, hx⟩ := hbridge s
  cases hx.symm.trans hexec
  obtain ⟨hcalls, _⟩ := bridge_frames x (takenState m s n)
  exact ⟨⟨x.call, by simpa using hcalls⟩, by simp [bridge_deoHaltHonoured, takenState]⟩

/-- Settles O55: a step of a run is `exec` of the fetched instruction after `pc` alone has moved, and the two kinds of
instruction are `exec_calls_once`, and `exec_keeps_calls` with `exec_mem`. -/
theorem onlyDeviceInstructionsCallTheHostAndOnlyStoresWriteMemory :
    Obligations.OnlyDeviceInstructionsCallTheHostAndOnlyStoresWriteMemory := by
  intro s t hphase hstep
  rw [step_running s hphase] at hstep
  by_cases hhost : callsHost (fetchInstr s)
  · obtain ⟨hcall, hhonoured⟩ := exec_calls_once hstep hhost
    exact ⟨absurd hhost, fun _ => hcall, absurd hhost, hhonoured⟩
  · obtain ⟨hcalls, hhonoured⟩ := exec_keeps_calls hstep hhost
    refine ⟨fun _ => hcalls, fun h => absurd h hhost, fun _ hstore a => ?_, hhonoured⟩
    rw [State.readByte, exec_mem hstep hhost hstore, advancePc_mem, State.readByte]

end Sys2Proof.Machine
end

section
/-!
PROOFS. The encoding family (30_encoding.md): what each opcode byte decodes to, the two round trips between bytes and instructions,
and what every decoded instruction does: it completes, and only `BRK` and the host can end its run.
-/

namespace Sys2Proof.Machine

/-! ## Opcode bytes -/

/-- The eight immediate opcodes (R73). -/
def immediateOpcodes : List Byte := [0x00, 0x20, 0x40, 0x60, 0x80, 0xA0, 0xC0, 0xE0]

theorem mod_32_of_mem_immediateOpcodes : ∀ op ∈ immediateOpcodes, op.toNat % 32 = 0 := by decide

/-- Every byte is one of the eight immediate opcodes or a base operation's byte in a mode (R71, R73, R79): it is the opcode of the
instruction it decodes to. -/
theorem byte_cases (op : Byte) : op ∈ immediateOpcodes ∨ ∃ b m, op = opcodeByte (baseNumber b) m := by
  have hop := opcode_decodeBytes op 0 0
  rcases instr_cases (decodeBytes op 0 0) with h | ⟨_, h⟩ | ⟨_, h⟩ | ⟨_, h⟩ | ⟨_, h⟩ | ⟨_, h⟩ | ⟨_, h⟩ | ⟨_, h⟩ | ⟨b, m, h⟩
  on_goal 9 => exact .inr ⟨b, m, by rw [← opcode_op, ← h, hop]⟩
  all_goals
    rw [h] at hop
    subst hop
    simp [immediateOpcodes]

/-- The base number and the three mode bits stand in the opcode byte side by side (R71). -/
theorem opcodeByte_fields : ∀ (n : Fin 32) (w r k : Bool),
    (opcodeByte n ⟨w, r, k⟩).toNat % 32 = n ∧ (opcodeByte n ⟨w, r, k⟩).getLsbD 5 = w ∧
      (opcodeByte n ⟨w, r, k⟩).getLsbD 6 = r ∧ (opcodeByte n ⟨w, r, k⟩).getLsbD 7 = k := by
  decide

theorem baseNumber_lt (b : Base) : baseNumber b < 32 := by
  cases b <;> decide

/-- The bytes of base operations are one-byte instructions (R77). -/
theorem lengthOfOpcode_opcodeByte (b : Base) (m : Mode) : lengthOfOpcode (opcodeByte (baseNumber b) m) = 1 := by
  rw [← opcode_op]
  exact length_op b m

/-- Settles O44: the byte is that of a base operation, since the immediate opcodes have base field 0. -/
theorem decodedFieldsAreTheOpcodeBits : Obligations.DecodedFieldsAreTheOpcodeBits := by
  intro op b1 b2 hbase
  rcases byte_cases op with himmediate | ⟨b, m, rfl⟩
  · exact absurd (mod_32_of_mem_immediateOpcodes op himmediate) hbase
  · obtain ⟨hnumber, hshort, hret, hkeep⟩ := opcodeByte_fields ⟨baseNumber b, baseNumber_lt b⟩ m.short m.ret m.keep
    exact ⟨lengthOfOpcode_opcodeByte b m, b, m, decodeBytes_opcodeByte b m b1 b2, hnumber.symm, hshort.symm, hret.symm,
      hkeep.symm⟩

/-- Settles O45: the decoder's rows for the immediate opcodes, the short being `concatBytes` of the two bytes. -/
theorem immediateOpcodesDecodeWithBigEndianImmediates : Obligations.ImmediateOpcodesDecodeWithBigEndianImmediates :=
  fun b1 b2 => ⟨concatBytes b1 b2, concatBytes_toNat b1 b2, decodeBytes_brk b1 b2, decodeBytes_jci b1 b2,
    decodeBytes_jmi b1 b2, decodeBytes_jsi b1 b2, decodeBytes_lit b1 b2, decodeBytes_lit2 b1 b2, decodeBytes_litr b1 b2,
    decodeBytes_lit2r b1 b2, rfl, rfl, rfl, rfl, rfl, rfl, rfl, rfl⟩

/-! ## The round trips -/

/-- Where `decode` succeeds there are enough bytes, and it gives what `decodeBytes` reads and the bytes beyond the length. -/
theorem decode_cons_eq_ok_iff (op : Byte) (tail : List Byte) (i : Instr) (rest : List Byte) :
    decode (op :: tail) = .ok (i, rest) ↔ lengthOfOpcode op ≤ tail.length + 1 ∧
      decodeBytes op (tail.getD 0 0) (tail.getD 1 0) = i ∧ tail.drop (lengthOfOpcode op - 1) = rest := by
  rw [decode]
  split
  · next hshort => simp [hshort.not_ge]
  · next henough => simp [not_lt.1 henough]

/-- The opcode byte and the immediate bytes, whatever follows them, decode to the instruction they encode (R74, R75). -/
theorem decodeBytes_encoded (i : Instr) (rest : List Byte) :
    decodeBytes (opcode i) ((immediateBytes i ++ rest).getD 0 0) ((immediateBytes i ++ rest).getD 1 0) = i := by
  rcases instr_cases i with rfl | ⟨imm, rfl⟩ | ⟨imm, rfl⟩ | ⟨imm, rfl⟩ | ⟨imm, rfl⟩ | ⟨imm, rfl⟩ | ⟨imm, rfl⟩ | ⟨imm, rfl⟩ |
    ⟨b, m, rfl⟩
  · exact decodeBytes_brk _ _
  · exact (decodeBytes_jci _ _).trans (congrArg Instr.jci (concatBytes_hiByte_loByte imm))
  · exact (decodeBytes_jmi _ _).trans (congrArg Instr.jmi (concatBytes_hiByte_loByte imm))
  · exact (decodeBytes_jsi _ _).trans (congrArg Instr.jsi (concatBytes_hiByte_loByte imm))
  · exact decodeBytes_lit _ _
  · exact (decodeBytes_lit2 _ _).trans (congrArg Instr.lit2 (concatBytes_hiByte_loByte imm))
  · exact decodeBytes_litr _ _
  · exact (decodeBytes_lit2r _ _).trans (congrArg Instr.lit2r (concatBytes_hiByte_loByte imm))
  · rw [opcode_op]
    exact decodeBytes_opcodeByte b m _ _

theorem decode_encode_append (i : Instr) (rest : List Byte) : decode (encode i ++ rest) = .ok (i, rest) := by
  have hlength := immediateBytes_length i
  refine (decode_cons_eq_ok_iff (opcode i) (immediateBytes i ++ rest) i rest).2 ⟨?_, decodeBytes_encoded i rest, ?_⟩
  · rw [← hlength, List.length_append]
    omega
  · rw [← hlength, Nat.add_sub_cancel, List.drop_left]

theorem wholeInstruction_encode (i : Instr) : wholeInstruction (encode i) = true :=
  beq_iff_eq.2 (immediateBytes_length i)

/-- Settles O42: `decode` reads the encoding back, and an encoding is as long as its opcode byte asks for. -/
theorem decodingAnEncodedInstructionGivesItBack : Obligations.DecodingAnEncodedInstructionGivesItBack :=
  fun i rest => ⟨decode_encode_append i rest, wholeInstruction_encode i⟩

/-- The immediate of a decoded instruction is the bytes that its opcode byte asks for, none altered (R75, R77). -/
theorem immediateBytes_decodeBytes (op b1 b2 : Byte) :
    immediateBytes (decodeBytes op b1 b2) = [b1, b2].take (lengthOfOpcode op - 1) := by
  rcases byte_cases op with himmediate | ⟨b, m, rfl⟩
  · have hshort : [hiByte (concatBytes b1 b2), loByte (concatBytes b1 b2)] = [b1, b2] := by
      rw [hiByte_concatBytes, loByte_concatBytes]
    simp only [immediateOpcodes, List.mem_cons, List.not_mem_nil, or_false] at himmediate
    rcases himmediate with rfl | rfl | rfl | rfl | rfl | rfl | rfl | rfl
    · rfl
    · exact hshort
    · exact hshort
    · exact hshort
    · rfl
    · exact hshort
    · rfl
    · exact hshort
  · rw [decodeBytes_opcodeByte, lengthOfOpcode_opcodeByte]
    exact (List.cons.inj (encode_op b m)).2

/-- The first bytes of a string, at most two and no more than it has, taken one by one. -/
theorem take_getD_getD (tail : List Byte) (n : Nat) (htwo : n ≤ 2) (hn : n ≤ tail.length) :
    [tail.getD 0 0, tail.getD 1 0].take n = tail.take n := by
  match tail, n with
  | _, 0 => rfl
  | _ :: _, 1 => rfl
  | _ :: _ :: _, 2 => rfl

/-- Settles O43: the opcode byte and the immediate bytes of the decoded instruction are those decoded, and the rest is what
follows them. -/
theorem encodingADecodedInstructionGivesItsBytesBack : Obligations.EncodingADecodedInstructionGivesItsBytesBack := by
  intro bytes i rest hdecode
  cases bytes with
  | nil => cases hdecode
  | cons op tail =>
    obtain ⟨henough, rfl, rfl⟩ := (decode_cons_eq_ok_iff op tail i rest).1 hdecode
    have hthree := lengthOfOpcode_le_three op
    rw [encode, opcode_decodeBytes, immediateBytes_decodeBytes, take_getD_getD tail _ (by omega) (by omega), List.cons_append,
      List.take_append_drop]

/-- Settles O46: each word is the encoding of its instruction, and `LIT2` has but one of its two bytes. -/
theorem specWordsDecodeToTheirInstructions : Obligations.SpecWordsDecodeToTheirInstructions :=
  ⟨decode_encode_append (.lit 0x2A) [], decode_encode_append (.lit2 0x1234) [], decode_encode_append (.jsi 0x0002) [],
    decode_encode_append .add [0x00], decode_encode_append .mul [], decode_encode_append .dup2k [],
    decode_encode_append .sth2r [], decode_encode_append .jcn [], decode_encode_append .sta2k [],
    decode_encode_append .deor [], decode_encode_append .equ2kr [], rfl⟩

/-! ## Kept pops -/

/-- With the keep flag, taking operands changes nothing (R97). -/
theorem takenState_of_keep {m : Mode} (hkeep : m.keep = true) (s : State) (n : Nat) : takenState m s n = s := by
  simp [takenState, takenStack, takenIdx, hkeep]

/-- `POP*` takes its operand and nothing more (R130). -/
theorem opPop_eq (m : Mode) (s : State) : opPop m s = takenState m s (operandBytes m) := by
  simp only [opPop, beginTake_eq, takeN_taken, taken_st, Nat.zero_add]

theorem step_pop_of_keep (s : State) (hphase : s.phase = .running) (m : Mode) (hkeep : m.keep = true)
    (hop : s.readByte s.pc = opcodeByte (baseNumber .pop) m) : step s = .next (s.setPc (s.pc + 1)) := by
  have hfetch : fetchInstr s = Instr.op .pop m := by
    rw [fetchInstr, hop, decodeBytes_opcodeByte]
  rw [step_running s hphase, hfetch, length_op, exec_op, regular, opPop_eq, takenState_of_keep hkeep]
  rfl

/-- Settles O59: the four bytes are `POP` in the four modes with the keep flag (R80). -/
theorem keptPopsOnlyAdvancePc : Obligations.KeptPopsOnlyAdvancePc := by
  rintro s hphase (hop | hop | hop | hop)
  · exact step_pop_of_keep s hphase ⟨false, false, true⟩ rfl hop
  · exact step_pop_of_keep s hphase ⟨true, false, true⟩ rfl hop
  · exact step_pop_of_keep s hphase ⟨false, true, true⟩ rfl hop
  · exact step_pop_of_keep s hphase ⟨true, true, true⟩ rfl hop

/-! ## Completion -/

/-- The end of a bridge call never leaves the machine stuck. -/
theorem finishTransaction_phase_ne_stuck (x : Transaction) (value : Short) (c : Bool) {s : State} (why : Stuck)
    (hphase : s.phase ≠ .stuck why) : (finishTransaction x value c s).phase ≠ .stuck why := by
  cases x with
  | dei port wide target => simpa [finishTransaction_dei] using hphase
  | deo port sent wide =>
    rw [finishTransaction_deo]
    split
    · simp
    · exact hphase

/-- A turn of the host leaves the machine stuck only by a bridge call that never comes back (R475). -/
theorem hostMove_phase_stuck {s : State} {why : Stuck} (hphase : s.phase = .hosting) (hstuck : (hostMove s).phase = .stuck why) :
    (takeTurn s).1.act = .stuck why ∧ (hostMove s).suspended ≠ [] := by
  have hedits : (afterEdits s).phase = .hosting := (afterEdits_phase s).trans hphase
  cases hact : (takeTurn s).1.act with
  | run vector =>
    rw [hostMove_run s vector hact] at hstuck
    cases hstuck
  | finish value c =>
    rw [hostMove_finish s value c hact] at hstuck
    cases hsuspended : (afterEdits s).suspended with
    | nil =>
      rw [resume_nil _ value c hsuspended, hedits] at hstuck
      cases hstuck
    | cons f rest =>
      rw [resume_eq _ f rest value c hsuspended] at hstuck
      exact absurd hstuck (finishTransaction_phase_ne_stuck _ _ _ why Phase.noConfusion)
  | stuck reason =>
    rw [hostMove_stuck s reason hact] at hstuck ⊢
    by_cases hidle : (afterEdits s).suspended = []
    · rw [enterStuck_nil _ reason hidle, hedits] at hstuck
      cases hstuck
    · have hreason : Phase.stuck reason = .stuck why := by
        rwa [enterStuck_phase, if_neg (mt List.isEmpty_iff.1 hidle)] at hstuck
      exact ⟨by rw [Phase.stuck.inj hreason], hidle⟩

/-- Every step completes but in the phase `stuck` (R460, R475). -/
theorem safe_of_not_stuck (s : State) (hphase : ∀ why, s.phase ≠ .stuck why) : Safe s := by
  cases h : s.phase with
  | created => exact ⟨_, step_created s h⟩
  | running =>
    obtain ⟨t, hexec⟩ := exec_next (fetchInstr s) (s.advancePc (fetchInstr s).length)
    exact ⟨t, (step_running s h).trans hexec⟩
  | hosting => exact ⟨_, step_hosting s h⟩
  | stuck why => exact absurd h (hphase why)

/-- A step that leaves the machine stuck took a host turn that never comes back, with a run suspended in it (R475). -/
theorem step_phase_stuck {s t : State} {why : Stuck} (hstep : step s = .next t) (hstuck : t.phase = .stuck why) :
    (takeTurn s).1.act = .stuck why ∧ t.suspended ≠ [] := by
  cases nextState_of_step hstep with
  | boot => cases hstuck
  | brk => cases hstuck
  | turn hphase => exact hostMove_phase_stuck hphase hstuck
  | moves hphase length shift t hmoves =>
    obtain ⟨hkept, _⟩ := hmoves.rest
    rw [hkept, advancePc_phase, hphase] at hstuck
    cases hstuck
  | call _ x m n =>
    have h := hostMove_phase_stuck (publish_phase _ x) hstuck
    rw [takeTurn_publish] at h
    rwa [(takeTurn_congr (s.advancePc 1) s rfl rfl).1] at h

/-- Settles O52: `exec` and `step` are total outside `stuck`, and `stuck` is entered by a host turn alone. -/
theorem everyInstructionCompletesAndOnlyAHostCallIsStuck : Obligations.EveryInstructionCompletesAndOnlyAHostCallIsStuck :=
  ⟨exec_next, safe_of_not_stuck, step_stuck, fun _ _ _ => step_phase_stuck⟩

/-! ## The end of a run -/

/-- With the signal not honoured, finishing a transaction ends no run (R333, D7). -/
theorem finishTransaction_of_not_honoured (x : Transaction) (value : Short) (c : Bool) {s : State}
    (hhonoured : s.deoHaltHonoured = false) :
    (finishTransaction x value c s).phase = s.phase ∧ (finishTransaction x value c s).result = s.result := by
  cases x with
  | dei port wide target => simp [finishTransaction_dei]
  | deo port sent wide => simp [finishTransaction_deo, hhonoured]

/-- With the signal not honoured, a bridge call returns no result: it leaves a run executing, the calling one or a nested one, or
the machine stuck with the calling run suspended (R333, R335, R475). -/
theorem bridge_of_not_honoured (x : Transaction) (s : State) (hhonoured : s.deoHaltHonoured = false) :
    (bridge x s).result = s.result ∧ ((bridge x s).phase = .running ∨ (∃ why, (bridge x s).phase = .stuck why) ∧
      (bridge x s).suspended = { pc := s.pc, transaction := x } :: s.suspended) := by
  have hsuspended : (afterEdits (publish x s)).suspended = { pc := s.pc, transaction := x } :: s.suspended :=
    afterEdits_suspended _
  cases hact : (takeTurn (publish x s)).1.act with
  | run vector =>
    rw [bridge, hostMove_run _ vector hact]
    exact ⟨by simp, .inl rfl⟩
  | finish value c =>
    rw [bridge, hostMove_finish _ value c hact, resume_eq _ _ _ value c hsuspended]
    have hgoOn : (goOn { pc := s.pc, transaction := x } s.suspended (afterEdits (publish x s))).deoHaltHonoured = false :=
      (afterEdits_deoHaltHonoured _).trans hhonoured
    obtain ⟨hphase, hresult⟩ := finishTransaction_of_not_honoured x value c hgoOn
    exact ⟨hresult.trans (afterEdits_result _), .inl hphase⟩
  | stuck why =>
    rw [bridge, hostMove_stuck _ why hact]
    exact ⟨by simp, .inr ⟨⟨why, enterStuck_phase_cons _ why _ _ hsuspended⟩, hsuspended⟩⟩

/-- Settles O54: an instruction that calls the host is one bridge call, and any other but `BRK` keeps the phase and the result. -/
theorem onlyBrkEndsARunByDefault : Obligations.OnlyBrkEndsARunByDefault := by
  intro s t hphase hbrk hhonoured hstep
  rw [step_running s hphase] at hstep
  by_cases hhost : callsHost (fetchInstr s)
  · obtain ⟨hlength, hbridge⟩ := exec_of_callsHost _ hhost
    obtain ⟨x, m, n, hexec⟩ := hbridge (s.advancePc (fetchInstr s).length)
    cases hexec.symm.trans hstep
    rw [hlength]
    have htaken : (takenState m (s.advancePc 1) n).deoHaltHonoured = false := by simpa [takenState] using hhonoured
    obtain ⟨hresult, hends⟩ := bridge_of_not_honoured x _ htaken
    refine ⟨by simpa using hresult, hends.imp_right fun ⟨hstuck, hsuspended⟩ => ⟨hstuck, x, ?_⟩⟩
    simpa using hsuspended
  · obtain ⟨shift, hmoves⟩ := exec_moves _ hbrk hhost
    obtain ⟨u, hexec, hu⟩ := hmoves (s.advancePc (fetchInstr s).length)
    cases hexec.symm.trans hstep
    obtain ⟨hkept, _, hresult, _⟩ := hu.rest
    exact ⟨hresult, .inl (hkept.trans hphase)⟩

end Sys2Proof.Machine
end

section
/-!
PROOFS. The execution family (40_execution.md): the end and the start of a run, what an instruction in keep mode leaves of its
operands, and a value stashed on the other stack and taken back.
-/

namespace Sys2Proof.Machine

/-! ## The end and the start of a run -/

/-- Settles O29: `BRK` is `halt` at the `pc` it finds, which `step` has moved past its one byte. -/
theorem brkEndsTheInnermostRun : Obligations.BrkEndsTheInnermostRun := by
  intro s
  have hmem : MemoryKept s (halt s.pc s) := fun _ => rfl
  exact ⟨rfl, halt s.pc s, rfl, rfl, rfl, rfl, halt_stack s s.pc, hmem, rfl, rfl, rfl, rfl⟩

/-- Settles O37: the step is `startRun` on the state as the host's writes leave it. -/
theorem vectorDeliverySavesNothing : Obligations.VectorDeliverySavesNothing := by
  intro s edits vector hphase hturn
  have hstore := afterEdits_sameStore s
  have hmove : hostMove s = startRun vector (afterEdits s) := hostMove_run s vector (by rw [hturn])
  rw [hturn] at hstore
  refine ⟨startRun vector (afterEdits s), by rw [step_hosting s hphase, hmove], rfl, rfl, ?_, fun k => ?_, hstore.readByte, ?_⟩
  · simp
  · rw [startRun_stack, hstore.stack]
  · simp

/-! ## Keep mode -/

/-- From `s` to `t` the stack `k` changes by a push of at most `n` bytes and nothing else. -/
def PushesUpTo (k : StackId) (n : Nat) (s t : State) : Prop :=
  ∃ bytes : List Byte, bytes.length ≤ n ∧ t.stack k = (s.stack k).pushBytes bytes

theorem pushesUpTo_of_stack_eq {k : StackId} {s t : State} (n : Nat) (h : t.stack k = s.stack k) : PushesUpTo k n s t :=
  ⟨[], n.zero_le, h⟩

theorem pushesUpTo_self (k : StackId) (n : Nat) (s : State) : PushesUpTo k n s s := pushesUpTo_of_stack_eq n rfl

theorem PushesUpTo.pushBytes {k : StackId} {n : Nat} {s t : State} (h : PushesUpTo k n s t) (more : List Byte) :
    PushesUpTo k (n + more.length) s (t.setStack k ((t.stack k).pushBytes more)) := by
  obtain ⟨bytes, hlen, hstack⟩ := h
  exact ⟨bytes ++ more, by simpa using hlen, by rw [setStack_stack_same, hstack, pushBytes_append]⟩

theorem PushesUpTo.mono {k : StackId} {n n' : Nat} {s t : State} (h : PushesUpTo k n s t) (hn : n ≤ n') :
    PushesUpTo k n' s t := by
  obtain ⟨bytes, hlen, hstack⟩ := h
  exact ⟨bytes, hlen.trans hn, hstack⟩

theorem PushesUpTo.pushN {k : StackId} {n : Nat} {s t : State} (h : PushesUpTo k n s t) (m : Mode)
    (v : BitVec (modeBits m)) : PushesUpTo k (n + 2) s (pushN m k v t) := by
  rw [pushN_eq]
  refine (h.pushBytes _).mono ?_
  rw [valueBytes_length]
  exact Nat.add_le_add_left (operandBytes_le m) n

/-- In keep mode a base operation other than `DEI` and `DEO` pushes at most three values on its active stack and takes nothing
off it; `STH` and `JSR` push on the other stack (R97, R98, R100). -/
theorem regular_pushesUpTo_of_keep (b : Base) (m : Mode) (s : State) (hkeep : m.keep = true) (hdei : b ≠ .dei)
    (hdeo : b ≠ .deo) : PushesUpTo (activeStack m) 6 s (regular b m s) := by
  have hkept := fun n => pushesUpTo_self (activeStack m) n s
  cases b with
  | dei => exact absurd rfl hdei
  | deo => exact absurd rfl hdeo
  | inc | add | sub | mul | div | and | ora | eor | sft | nip | ldz | ldr | lda =>
    simp only [regular, opInc, opAdd, opSub, opMul, opDiv, opAnd, opOra, opEor, opSft, opNip, opLdz, opLdr, opLda,
      beginTake_eq, take1_taken, take2_taken, takeN_taken, taken_st, takenState_of_keep hkeep]
    exact (hkept 4).pushN m _
  | equ | neq | gth | lth =>
    simp only [regular, opEqu, opNeq, opGth, opLth, beginTake_eq, takeN_taken, taken_st, takenState_of_keep hkeep]
    exact (hkept 5).pushBytes [_]
  | swp | dup =>
    simp only [regular, opSwp, opDup, beginTake_eq, takeN_taken, taken_st, takenState_of_keep hkeep]
    exact ((hkept 2).pushN m _).pushN m _
  | rot | ovr =>
    simp only [regular, opRot, opOvr, beginTake_eq, takeN_taken, taken_st, takenState_of_keep hkeep]
    exact (((hkept 0).pushN m _).pushN m _).pushN m _
  | pop =>
    rw [regular, opPop_eq, takenState_of_keep hkeep]
    exact hkept 6
  | sth | jsr | jmp =>
    simp only [regular, opSth, opJsr, opJmp, beginTake_eq, takeN_taken, taken_st, takenState_of_keep hkeep]
    exact pushesUpTo_of_stack_eq 6 (by simp [pushN_eq, pushShort_eq])
  | jcn =>
    simp only [regular, opJcn, beginTake_eq, takeN_taken, take1_taken, taken_st, takenState_of_keep hkeep]
    exact pushesUpTo_of_stack_eq 6 (by split <;> simp)
  | stz | str | sta =>
    simp only [regular, opStz, opStr, opSta, beginTake_eq, take1_taken, take2_taken, takeN_taken, taken_st,
      takenState_of_keep hkeep]
    obtain ⟨hstack, _⟩ := memWriteN_fields m s _ _
    exact pushesUpTo_of_stack_eq 6 (hstack _)

/-- A push of `c` bytes reaches no slot less than `256 - c` below the old top: the ring does not close (R22, R39). -/
theorem PushesUpTo.slotAt_below {k : StackId} {c : Nat} {s t : State} (h : PushesUpTo k c s t) (n : Nat) (hn : n + c < 256) :
    slotAt (t.stack k) ((s.stack k).idx.toNat + 256 - n) = fromTop (s.stack k) n := by
  obtain ⟨bytes, hlen, hstack⟩ := h
  obtain ⟨_, _, hother⟩ := stackBecomes_pushBytes_top (s.stack k) bytes (by omega)
  rw [hstack, fromTop]
  refine hother _ fun j hj => ?_
  rw [List.length_map] at hj
  omega

/-- Settles O56: six bytes pushed on a ring of 256 leave the 250 slots from the old top down. -/
theorem keepModeLeavesTheOperandsInPlace : Obligations.KeepModeLeavesTheOperandsInPlace := by
  intro b m s t hkeep hdei hdeo hexec n hn
  rw [exec_op] at hexec
  cases hexec
  exact (regular_pushesUpTo_of_keep b m s hkeep hdei hdeo).slotAt_below n (by omega)

/-! ## Stash and unstash -/

/-- The top `n` bytes of a stack, the deepest first. -/
def topBytes (t : Stack) : Nat → List Byte
  | 0 => []
  | n + 1 => t.slot (t.idx - BitVec.ofNat 8 n) :: topBytes t n

@[simp] theorem topBytes_length (t : Stack) (n : Nat) : (topBytes t n).length = n := by
  induction n with
  | zero => rfl
  | succ n ih => rw [topBytes, List.length_cons, ih]

/-- The bytes of the value on top (R25). -/
theorem valueBytes_operandAt_zero (m : Mode) (t : Stack) :
    valueBytes m (operandAt m t 0) = topBytes t (operandBytes m) := by
  obtain ⟨w, r, k⟩ := m
  cases w
  · rfl
  · simp [valueBytes, operandAt, operandBytes, topBytes]

/-- Bytes pushed are the top bytes. -/
theorem topBytes_pushBytes (t : Stack) (bytes : List Byte) (hlen : bytes.length ≤ 256) :
    topBytes (t.pushBytes bytes) bytes.length = bytes := by
  induction bytes generalizing t with
  | nil => rfl
  | cons v rest ih =>
    have hfirst := pushBytes_slot t (v :: rest) hlen 0 (by simp)
    have hidx : (t.pushBytes (v :: rest)).idx - BitVec.ofNat 8 rest.length = t.idx + 1 + BitVec.ofNat 8 0 := by
      rw [pushBytes_cons, pushBytes_idx, push1_idx, BitVec.add_sub_cancel, BitVec.add_zero]
    rw [List.length_cons, topBytes, hidx, hfirst, pushBytes_cons, ih _ (Nat.le_of_succ_le hlen)]
    rfl

/-- Pushing the top `n` bytes of `t` on a stack with the same bytes and the index `n` lower writes what stands there. -/
theorem pushBytes_topBytes_slot {t u : Stack} (n : Nat) (hidx : u.idx = t.idx - BitVec.ofNat 8 n)
    (hslot : ∀ x, u.slot x = t.slot x) (x : Byte) : (u.pushBytes (topBytes t n)).slot x = t.slot x := by
  induction n generalizing u with
  | zero => exact hslot x
  | succ n ih =>
    have hnext : u.idx + 1 = t.idx - BitVec.ofNat 8 n := by
      rw [hidx, BitVec.ofNat_add]
      bv_omega
    refine ih hnext fun y => ?_
    rw [push1_slot, hnext, hslot]
    split
    · next hy => rw [hy]
    · rfl

/-- `STH*` in closed form: the top value is taken, and its bytes are pushed on the other stack (R184). -/
theorem opSth_eq (m : Mode) (s : State) :
    opSth m s = (takenState m s (operandBytes m)).setStack (otherStack m)
      ((s.stack (otherStack m)).pushBytes (topBytes (s.stack (activeStack m)) (operandBytes m))) := by
  simp only [opSth, beginTake_eq, takeN_taken, taken_st, Nat.zero_add, pushN_eq, valueBytes_operandAt_zero, takenState_other]

theorem opSth_active (m : Mode) (s : State) :
    (opSth m s).stack (activeStack m) = takenStack m s (operandBytes m) := by
  rw [opSth_eq, setStack_stack_other _ _ _ _ (activeStack_ne m), takenState_active]

theorem opSth_other (m : Mode) (s : State) :
    (opSth m s).stack (otherStack m) =
      (s.stack (otherStack m)).pushBytes (topBytes (s.stack (activeStack m)) (operandBytes m)) := by
  rw [opSth_eq, setStack_stack_same]

@[simp] theorem opSth_readByte (m : Mode) (s : State) (a : Addr) : (opSth m s).readByte a = s.readByte a := by
  simp [opSth_eq]

@[simp] theorem opSth_pc (m : Mode) (s : State) : (opSth m s).pc = s.pc := by
  simp [opSth_eq]

/-- Without the keep flag, `n` bytes taken move the index down by `n` and touch no byte (R96). -/
theorem takenStack_of_not_keep {m : Mode} (hkeep : m.keep = false) (s : State) (n : Nat) :
    takenStack m s n = (s.stack (activeStack m)).setIdx ((s.stack (activeStack m)).idx - BitVec.ofNat 8 n) := by
  simp [takenStack, takenIdx, hkeep]

/-- The mode that goes back: `STH*` in it takes from the stack that `STH*` in `m` pushes on. -/
def backMode (m : Mode) : Mode := { m with ret := !m.ret }

@[simp] theorem operandBytes_backMode (m : Mode) : operandBytes (backMode m) = operandBytes m := rfl

@[simp] theorem activeStack_backMode (m : Mode) : activeStack (backMode m) = otherStack m := by
  obtain ⟨w, r, k⟩ := m
  cases r <;> rfl

@[simp] theorem otherStack_backMode (m : Mode) : otherStack (backMode m) = activeStack m := by
  obtain ⟨w, r, k⟩ := m
  cases r <;> rfl

/-- There and back: the stack that gave the value gets its own top bytes back. -/
theorem opSth_opSth_active (m : Mode) (hkeep : m.keep = false) (s : State) :
    (opSth (backMode m) (opSth m s)).stack (activeStack m) =
      ((s.stack (activeStack m)).setIdx ((s.stack (activeStack m)).idx - BitVec.ofNat 8 (operandBytes m))).pushBytes
        (topBytes (s.stack (activeStack m)) (operandBytes m)) := by
  have hbytes := operandBytes_le m
  have htop := topBytes_pushBytes (s.stack (otherStack m)) (topBytes (s.stack (activeStack m)) (operandBytes m))
    (by rw [topBytes_length]; omega)
  rw [topBytes_length] at htop
  have hback := opSth_other (backMode m) (opSth m s)
  rw [otherStack_backMode, activeStack_backMode, operandBytes_backMode, opSth_active, opSth_other, htop] at hback
  rw [hback, takenStack_of_not_keep hkeep]

/-- There and back: the stack that held the value has its index back. The slots above it keep the value's bytes (R39). -/
theorem opSth_opSth_other_idx (m : Mode) (hkeep : m.keep = false) (s : State) :
    ((opSth (backMode m) (opSth m s)).stack (otherStack m)).idx = (s.stack (otherStack m)).idx := by
  have hback := opSth_active (backMode m) (opSth m s)
  rw [takenStack_of_not_keep (m := backMode m) hkeep, activeStack_backMode, operandBytes_backMode, opSth_other] at hback
  rw [hback, setIdx_idx, pushBytes_idx, topBytes_length, BitVec.add_sub_cancel]

theorem eq_activeStack_or_eq_otherStack (m : Mode) (k : StackId) : k = activeStack m ∨ k = otherStack m := by
  obtain ⟨w, r, q⟩ := m
  cases r <;> cases k <;> simp [activeStack, otherStack]

theorem opSth_opSth_idx (m : Mode) (hkeep : m.keep = false) (s : State) (k : StackId) :
    ((opSth (backMode m) (opSth m s)).stack k).idx = (s.stack k).idx := by
  rcases eq_activeStack_or_eq_otherStack m k with rfl | rfl
  · rw [opSth_opSth_active m hkeep, pushBytes_idx, setIdx_idx, topBytes_length, BitVec.sub_add_cancel]
  · exact opSth_opSth_other_idx m hkeep s

theorem opSth_opSth_slotAt (m : Mode) (hkeep : m.keep = false) (s : State) (n : Nat) :
    slotAt ((opSth (backMode m) (opSth m s)).stack (activeStack m)) n = slotAt (s.stack (activeStack m)) n := by
  rw [opSth_opSth_active m hkeep, slotAt_eq, slotAt_eq,
    pushBytes_topBytes_slot (operandBytes m) (setIdx_idx _ _) fun _ => rfl]

/-- Settles O58: the two opcodes are `STH*` in a mode without the keep flag and in its `backMode`. -/
theorem stashAndUnstashRestoreTheStack : Obligations.StashAndUnstashRestoreTheStack := by
  intro w r s
  have hmem : MemoryKept s (opSth (backMode ⟨w, r, false⟩) (opSth ⟨w, r, false⟩ s)) := fun a => by
    rw [opSth_readByte, opSth_readByte]
  exact ⟨_, _, exec_op .sth ⟨w, r, false⟩ s, exec_op .sth (backMode ⟨w, r, false⟩) _,
    opSth_opSth_idx ⟨w, r, false⟩ rfl s, opSth_opSth_slotAt ⟨w, r, false⟩ rfl s, hmem, (opSth_pc _ _).trans (opSth_pc _ s)⟩

end Sys2Proof.Machine
end

section
/-!
PROOFS. The immediate family (41_immediate.md): the pushes of an immediate, and the three relative jumps. Each of these opcodes
replaces at most one stack, which it names itself, and sets at most `pc`.
-/

namespace Sys2Proof.Machine

/-! ## A stack replaced -/

theorem memoryKept_setStack (s : State) (k : StackId) (t : Stack) : MemoryKept s (s.setStack k t) :=
  setStack_readByte s k t

theorem restKept_setStack (s : State) (k : StackId) (t : Stack) : RestKept s (s.setStack k t) := by
  simp [RestKept]

/-- A push on the stack `k` changes that stack alone (R98, R101). -/
theorem setStack_pushBytes_frame (s : State) (k l : StackId) (hne : l ≠ k) (bytes : List Byte) (hlen : bytes.length ≤ 256) :
    let t := s.setStack k ((s.stack k).pushBytes bytes)
    StackBecomes (s.stack k) (t.stack k) (s.stack k).idx.toNat (bytes.map BitVec.toNat) ∧ t.stack l = s.stack l ∧
      t.pc = s.pc ∧ MemoryKept s t ∧ RestKept s t := by
  refine ⟨?_, setStack_stack_other s k l _ hne, setStack_pc s k _, memoryKept_setStack s k _, restKept_setStack s k _⟩
  rw [setStack_stack_same]
  exact stackBecomes_pushBytes_top _ _ hlen

theorem pushByte_frame (s : State) (k l : StackId) (hne : l ≠ k) (v : Byte) :
    let t := pushByte k v s
    StackBecomes (s.stack k) (t.stack k) (s.stack k).idx.toNat [v.toNat] ∧ t.stack l = s.stack l ∧
      t.pc = s.pc ∧ MemoryKept s t ∧ RestKept s t :=
  setStack_pushBytes_frame s k l hne [v] (by simp)

/-- A short goes on the stack as its two bytes, the high byte deeper (R30). -/
theorem pushShort_frame (s : State) (k l : StackId) (hne : l ≠ k) (v : Short) :
    let t := pushShort k v s
    StackBecomes (s.stack k) (t.stack k) (s.stack k).idx.toNat (bytesOf 2 v.toNat) ∧ t.stack l = s.stack l ∧
      t.pc = s.pc ∧ MemoryKept s t ∧ RestKept s t := by
  rw [← short_bytesOf]
  exact setStack_pushBytes_frame s k l hne [hiByte v, loByte v] (by simp)

/-! ## The immediates pushed -/

/-- Settles O33: `LIT` and `LIT2` are a byte push and a short push on `W`. -/
theorem litPushesItsImmediateOnTheWorkingStack : Obligations.LitPushesItsImmediateOnTheWorkingStack := by
  intro b v s
  exact ⟨rfl, rfl, ⟨pushByte .work b s, rfl, pushByte_frame s .work .ret (by decide) b⟩,
    ⟨pushShort .work v s, rfl, pushShort_frame s .work .ret (by decide) v⟩⟩

/-- Settles O34: `LITr` and `LIT2r` are a byte push and a short push on `R`. -/
theorem litrPushesItsImmediateOnTheReturnStack : Obligations.LitrPushesItsImmediateOnTheReturnStack := by
  intro b v s
  exact ⟨rfl, rfl, ⟨pushByte .ret b s, rfl, pushByte_frame s .ret .work (by decide) b⟩,
    ⟨pushShort .ret v s, rfl, pushShort_frame s .ret .work (by decide) v⟩⟩

/-! ## The relative jumps -/

theorem toNat_pc_add (pc : Addr) (imm : Short) : (pc + imm).toNat = (pc.toNat + imm.toNat) % 65536 := BitVec.toNat_add pc imm

/-- Settles O31: `JMI` is one `setPc`. -/
theorem jmiAddsItsImmediateToPc : Obligations.JmiAddsItsImmediateToPc := by
  intro imm s
  have hmem : MemoryKept s (s.setPc (s.pc + imm)) := setPc_readByte s _
  exact ⟨rfl, s.setPc (s.pc + imm), rfl, toNat_pc_add s.pc imm, setPc_stack s _, hmem, (moves_setPc s _).rest⟩

/-- Settles O32: `JSI` is a short push of the `pc` it finds on `R`, and then a `setPc`, which touches nothing else. -/
theorem jsiPushesTheReturnAddressOnTheReturnStack : Obligations.JsiPushesTheReturnAddressOnTheReturnStack := by
  intro imm s
  obtain ⟨hret, hwork, _, hmem, hrest⟩ := pushShort_frame s .ret .work (by decide) s.pc
  exact ⟨rfl, (pushShort .ret s.pc s).setPc (s.pc + imm), rfl, toNat_pc_add s.pc imm, hret, hwork, hmem,
    restKept_trans hrest (moves_setPc _ _).rest⟩

/-- `JCI` in closed form: the index of `W` moves down by one in every case, and the byte it left decides the new `pc` (R121). -/
theorem exec_jci (imm : Short) (s : State) :
    exec (.jci imm) s = .next ((s.setStack .work (s.wst.setIdx (s.wst.idx - 1))).setPc
      (if fromTop s.wst 0 = 0 then s.pc else s.pc + imm)) := by
  have hcond : conditionHolds (s.wst.slot s.wst.idx) = true ↔ fromTop s.wst 0 ≠ 0 := by
    rw [conditionHolds_iff, fromTop_eq s.wst 0 (by omega), BitVec.sub_zero]
  have hexec : exec (.jci imm) s = execJci imm s := rfl
  rw [hexec, execJci, stack_work, pop1_eq]
  simp only [hcond, ne_eq, ite_not]
  split <;> rfl

/-- Settles O30: in the closed form the stacks, memory and the run frames do not depend on the condition. -/
theorem jciPopsItsConditionAndJumpsWhenNotZero : Obligations.JciPopsItsConditionAndJumpsWhenNotZero := by
  intro imm s
  have hidx : (s.wst.idx - 1).toNat = (s.wst.idx.toNat + 255) % 256 := by bv_omega
  have hmem := memoryKept_setStack s .work (s.wst.setIdx (s.wst.idx - 1))
  have hrest := restKept_setStack s .work (s.wst.setIdx (s.wst.idx - 1))
  refine ⟨rfl, _, exec_jci imm s, ?_, ?_, rfl, hmem, restKept_trans hrest (moves_setPc _ _).rest⟩
  · rw [setPc_pc, ← toNat_pc_add]
    split <;> rfl
  · rw [← hidx]
    exact stackBecomes_setIdx s.wst _

end Sys2Proof.Machine
end

section
/-!
PROOFS. The stack family (42_stack.md). `POP`, `NIP`, `SWP`, `ROT`, `DUP` and `OVR` are one operation: they take up to three
values from the active stack and push some of them back in an order of their own (`rearranged`). Each is tied to that closed
form by an equation, and the closed form is described once. `STH` alone touches both stacks.
-/

namespace Sys2Proof.Machine

/-! ## Operands pushed back in another order -/

/-- The bytes pushed for the operands of the list, in its order. Operand `j` is the value with `j` values above it, so operand 0
is on top (R25). -/
def operandsBytes (m : Mode) (t : Stack) (order : List (Fin 3)) : List Byte :=
  order.flatMap fun j : Fin 3 => valueBytes m (operandAt m t (j * operandBytes m))

/-- The same bytes in the words of the statements, as numbers. -/
def operandsNumbers (m : Mode) (t : Stack) (order : List (Fin 3)) : List Nat :=
  order.flatMap fun j : Fin 3 => bytesOf (operandBytes m) (valueFromTop t (j * operandBytes m) (operandBytes m))

/-- The state after `count` values are taken and the operands of the list pushed back in its order (R96, R98). -/
def rearranged (m : Mode) (s : State) (count : Nat) (order : List (Fin 3)) : State :=
  s.setStack (activeStack m)
    ((takenStack m s (count * operandBytes m)).pushBytes (operandsBytes m (s.stack (activeStack m)) order))

theorem operandsBytes_length (m : Mode) (t : Stack) (order : List (Fin 3)) :
    (operandsBytes m t order).length = order.length * operandBytes m := by
  simp [operandsBytes, List.length_flatMap, valueBytes_length]

theorem operandsBytes_toNat (m : Mode) (t : Stack) (order : List (Fin 3)) :
    (operandsBytes m t order).map BitVec.toNat = operandsNumbers m t order := by
  have hvalue (j : Fin 3) : (operandAt m t (j * operandBytes m)).toNat =
      valueFromTop t (j * operandBytes m) (operandBytes m) := by
    have hoffset : j * operandBytes m ≤ 2 * 2 := Nat.mul_le_mul (Nat.le_of_lt_succ j.isLt) (operandBytes_le m)
    exact operandAt_toNat m t _ (by omega)
  simp only [operandsBytes, operandsNumbers, List.map_flatMap, valueBytes_toNat, hvalue]

/-- A rearrangement of at most three values changes the active stack alone. -/
theorem onlyActiveStack_rearranged (m : Mode) (s : State) (count : Nat) (order : List (Fin 3)) (hcount : count ≤ 3)
    (horder : order.length ≤ 3) :
    OnlyActiveStack m s (rearranged m s count order) (count * operandBytes m)
      (operandsNumbers m (s.stack (activeStack m)) order) := by
  have htaken : count * operandBytes m ≤ 3 * 2 := Nat.mul_le_mul hcount (operandBytes_le m)
  have hpushed : order.length * operandBytes m ≤ 3 * 2 := Nat.mul_le_mul horder (operandBytes_le m)
  rw [← operandsBytes_toNat]
  exact onlyActiveStack_pushBytes m s _ (by omega) _ (by rw [operandsBytes_length]; omega)

/-- The opcodes of a base operation whose meaning is a rearrangement of at most three values: their bytes, and that they
complete with only the active stack changed. -/
theorem exec_of_rearranged (b : Base) (m : Mode) (s : State) (count : Nat) (order : List (Fin 3))
    (hregular : regular b m s = rearranged m s count order) (hcount : count ≤ 3) (horder : order.length ≤ 3) :
    encode (Instr.op b m) = [opcodeByte (baseNumber b) m] ∧
    ∃ t, exec (Instr.op b m) s = .next t ∧
      OnlyActiveStack m s t (count * operandBytes m) (operandsNumbers m (s.stack (activeStack m)) order) := by
  refine ⟨encode_op b m, rearranged m s count order, ?_, onlyActiveStack_rearranged m s count order hcount horder⟩
  rw [exec_op, hregular]

/-! ## Which rearrangement each operation is -/

theorem opPop_rearranged (m : Mode) (s : State) : opPop m s = rearranged m s 1 [] := by
  rw [opPop_eq, rearranged, Nat.one_mul]
  rfl

theorem opNip_rearranged (m : Mode) (s : State) : opNip m s = rearranged m s 2 [0] := by
  simp [opNip, beginTake_eq, takeN_taken, pushN_takenState, rearranged, operandsBytes, Nat.two_mul]

theorem opSwp_rearranged (m : Mode) (s : State) : opSwp m s = rearranged m s 2 [0, 1] := by
  simp [opSwp, beginTake_eq, takeN_taken, pushN_takenState, pushN_setStack, pushBytes_append, rearranged, operandsBytes,
    Nat.two_mul]

theorem opRot_rearranged (m : Mode) (s : State) : opRot m s = rearranged m s 3 [1, 0, 2] := by
  simp [opRot, beginTake_eq, takeN_taken, pushN_takenState, pushN_setStack, pushBytes_append, rearranged, operandsBytes,
    Nat.succ_mul]

theorem opDup_rearranged (m : Mode) (s : State) : opDup m s = rearranged m s 1 [0, 0] := by
  simp [opDup, beginTake_eq, takeN_taken, pushN_takenState, pushN_setStack, pushBytes_append, rearranged, operandsBytes]

theorem opOvr_rearranged (m : Mode) (s : State) : opOvr m s = rearranged m s 2 [1, 0, 1] := by
  simp [opOvr, beginTake_eq, takeN_taken, pushN_takenState, pushN_setStack, pushBytes_append, rearranged, operandsBytes,
    Nat.two_mul]

/-! ## The statements -/

/-- Settles O8: one value is taken and none pushed back. -/
theorem popRemovesTheTopValue : Obligations.PopRemovesTheTopValue := by
  intro m s
  simpa [baseNumber, operandsNumbers] using exec_of_rearranged .pop m s 1 [] (opPop_rearranged m s) (by decide) (by decide)

/-- Settles O9: of two values taken the top one is pushed back. -/
theorem nipDiscardsTheSecondValue : Obligations.NipDiscardsTheSecondValue := by
  intro m s
  simpa [baseNumber, operandsNumbers] using exec_of_rearranged .nip m s 2 [0] (opNip_rearranged m s) (by decide) (by decide)

/-- Settles O10: two values are taken and pushed back, the top one first. -/
theorem swpExchangesTheTopTwoValues : Obligations.SwpExchangesTheTopTwoValues := by
  intro m s
  simpa [baseNumber, operandsNumbers] using exec_of_rearranged .swp m s 2 [0, 1] (opSwp_rearranged m s) (by decide) (by decide)

/-- Settles O11: three values are taken and pushed back, the deepest one last. -/
theorem rotBringsTheThirdValueToTheTop : Obligations.RotBringsTheThirdValueToTheTop := by
  intro m s
  simpa [baseNumber, operandsNumbers] using exec_of_rearranged .rot m s 3 [1, 0, 2] (opRot_rearranged m s) (by decide) (by decide)

/-- Settles O12: one value is taken and pushed back twice. -/
theorem dupPushesTheTopValueTwice : Obligations.DupPushesTheTopValueTwice := by
  intro m s
  simpa [baseNumber, operandsNumbers] using exec_of_rearranged .dup m s 1 [0, 0] (opDup_rearranged m s) (by decide) (by decide)

/-- Settles O13: two values are taken, and the deeper one is pushed back on both sides of the other. -/
theorem ovrCopiesTheSecondValueOverTheTop : Obligations.OvrCopiesTheSecondValueOverTheTop := by
  intro m s
  simpa [baseNumber, operandsNumbers] using exec_of_rearranged .ovr m s 2 [1, 0, 1] (opOvr_rearranged m s) (by decide) (by decide)

/-! ## The move to the other stack -/

/-- The top bytes of the mode's width as numbers. -/
theorem topBytes_toNat (m : Mode) (t : Stack) :
    (topBytes t (operandBytes m)).map BitVec.toNat = bytesOf (operandBytes m) (valueFromTop t 0 (operandBytes m)) := by
  rw [← valueBytes_operandAt_zero, valueBytes_toNat, operandAt_toNat m t 0 (by omega)]

theorem opSth_restKept (m : Mode) (s : State) : RestKept s (opSth m s) := by
  rw [opSth_eq]
  exact restKept_trans (moves_takenState m s _).rest (restKept_setStack _ _ _)

/-- Settles O14: in the closed form of `STH*` the active stack has its index moved alone, and the other one the top bytes
pushed. -/
theorem sthMovesTheTopValueToTheOtherStack : Obligations.SthMovesTheTopValueToTheOtherStack := by
  intro m s
  have hbytes := operandBytes_le m
  refine ⟨encode_op .sth m, opSth m s, exec_op .sth m s, ?_, ?_, opSth_pc m s, opSth_readByte m s, opSth_restKept m s⟩
  · rw [opSth_active, ← takenIdx_toNat m _ _ (by omega)]
    exact stackBecomes_setIdx _ _
  · rw [opSth_other, ← topBytes_toNat]
    exact stackBecomes_pushBytes_top _ _ (by rw [topBytes_length]; omega)

end Sys2Proof.Machine
end

section
/-!
PROOFS. The comparison family (43_compare.md). `EQU`, `NEQ`, `GTH` and `LTH` are one operation: they take two values from the
active stack and push the byte of a flag (`flagged`). Each is tied to that closed form by an equation that names its flag, and
each flag to the relation between the two values as natural numbers.
-/

namespace Sys2Proof.Machine

/-! ## A flag pushed in place of two values -/

/-- The state after two values are taken and the byte of a flag is pushed, in short mode too (R96, R98). -/
def flagged (m : Mode) (s : State) (flag : Bool) : State :=
  pushByte (activeStack m) (flagByte flag) (takenState m s (2 * operandBytes m))

/-- A flag pushed in place of two values changes the active stack alone. -/
theorem onlyActiveStack_flagged (m : Mode) (s : State) (flag : Bool) :
    OnlyActiveStack m s (flagged m s flag) (2 * operandBytes m) [if flag then 1 else 0] := by
  have htaken : 2 * operandBytes m ≤ 2 * 2 := Nat.mul_le_mul_left 2 (operandBytes_le m)
  rw [flagged, pushByte_takenState, ← flagByte_toNat]
  exact onlyActiveStack_pushBytes m s _ (by omega) [flagByte flag] (by simp)

/-- The opcodes of a base operation whose meaning is a flag that says whether `holds`: their bytes, and that they complete with
only the active stack changed. -/
theorem exec_of_flagged (b : Base) (m : Mode) (s : State) (flag : Bool) (holds : Prop) [Decidable holds]
    (hregular : regular b m s = flagged m s flag) (hflag : flag = true ↔ holds) :
    encode (Instr.op b m) = [opcodeByte (baseNumber b) m] ∧
    ∃ t, exec (Instr.op b m) s = .next t ∧ OnlyActiveStack m s t (2 * operandBytes m) [if holds then 1 else 0] := by
  refine ⟨encode_op b m, flagged m s flag, by rw [exec_op, hregular], ?_⟩
  simpa only [hflag] using onlyActiveStack_flagged m s flag

/-! ## Which flag each operation pushes -/

/-- `b` of the statements, the top value (R96). -/
def topOperand (m : Mode) (s : State) : BitVec (modeBits m) := operandAt m (s.stack (activeStack m)) 0

/-- `a` of the statements, the value beneath it (R96, D22). -/
def secondOperand (m : Mode) (s : State) : BitVec (modeBits m) := operandAt m (s.stack (activeStack m)) (operandBytes m)

theorem topOperand_toNat (m : Mode) (s : State) :
    (topOperand m s).toNat = valueFromTop (s.stack (activeStack m)) 0 (operandBytes m) :=
  operandAt_toNat m _ 0 (by omega)

theorem secondOperand_toNat (m : Mode) (s : State) :
    (secondOperand m s).toNat = valueFromTop (s.stack (activeStack m)) (operandBytes m) (operandBytes m) :=
  operandAt_toNat m _ _ ((operandBytes_le m).trans (by decide))

/-- What the four operations share: the top value is taken, then the one beneath it, and the flag is a function of the two. -/
theorem flagged_of_taken (m : Mode) (s : State) (flag : BitVec (modeBits m) → BitVec (modeBits m) → Bool) :
    let top := takeN m (beginTake m s)
    let second := takeN m top.2
    pushByte (activeStack m) (flagByte (flag second.1 top.1)) second.2.st =
      flagged m s (flag (secondOperand m s) (topOperand m s)) := by
  simp only [beginTake_eq, takeN_taken, taken_st, Nat.zero_add, flagged, topOperand, secondOperand, Nat.two_mul]

theorem opEqu_flagged (m : Mode) (s : State) : opEqu m s = flagged m s (secondOperand m s == topOperand m s) :=
  flagged_of_taken m s fun a b => a == b

theorem opNeq_flagged (m : Mode) (s : State) : opNeq m s = flagged m s (secondOperand m s != topOperand m s) :=
  flagged_of_taken m s fun a b => a != b

theorem opGth_flagged (m : Mode) (s : State) : opGth m s = flagged m s ((topOperand m s).ult (secondOperand m s)) :=
  flagged_of_taken m s fun a b => b.ult a

theorem opLth_flagged (m : Mode) (s : State) : opLth m s = flagged m s ((secondOperand m s).ult (topOperand m s)) :=
  flagged_of_taken m s fun a b => a.ult b

/-! ## The statements -/

/-- Settles O15: two values of one width are equal exactly when they are the same number. -/
theorem equNeqPushOneFlagByte : Obligations.EquNeqPushOneFlagByte := by
  intro m s N S a b
  have heq : secondOperand m s = topOperand m s ↔ a = b := by
    rw [← BitVec.toNat_inj, secondOperand_toNat, topOperand_toNat]
  exact ⟨exec_of_flagged .equ m s _ (a = b) (opEqu_flagged m s) (beq_iff_eq.trans heq),
    exec_of_flagged .neq m s _ (a ≠ b) (opNeq_flagged m s) (bne_iff_ne.trans heq.not)⟩

/-- Settles O16: `BitVec.ult` is the order of the numbers, with the top value on its left for `GTH` and on its right for
`LTH`. -/
theorem gthLthCompareUnsigned : Obligations.GthLthCompareUnsigned := by
  intro m s N S a b
  have hgth : (topOperand m s).ult (secondOperand m s) = true ↔ a > b := by
    rw [BitVec.ult_iff_lt, BitVec.lt_def, secondOperand_toNat, topOperand_toNat]
  have hlth : (secondOperand m s).ult (topOperand m s) = true ↔ a < b := by
    rw [BitVec.ult_iff_lt, BitVec.lt_def, secondOperand_toNat, topOperand_toNat]
  exact ⟨exec_of_flagged .gth m s _ (a > b) (opGth_flagged m s) hgth,
    exec_of_flagged .lth m s _ (a < b) (opLth_flagged m s) hlth⟩

end Sys2Proof.Machine
end

section
/-!
PROOFS. The control family (44_control.md). `JMP`, `JCN` and `JSR` each take their operands and then set `pc`; `JSR` pushes on the
other stack in between. Each is tied to that closed form by an equation, and what the closed form keeps is said once.
-/

namespace Sys2Proof.Machine

/-! ## Operands taken, then `pc` set -/

/-- Taking operands changes the active stack's index alone (R96). -/
theorem onlyActiveStack_takenState (m : Mode) (s : State) (n : Nat) (hn : n ≤ 256) :
    OnlyActiveStack m s (takenState m s n) n [] :=
  onlyActiveStack_pushBytes m s n hn [] (by simp)

/-- A new `pc` after operands are taken leaves everything else as the taking does (R101, R102). -/
theorem takenState_setPc_frame (m : Mode) (s : State) (n : Nat) (hn : n ≤ 256) (p : Addr) :
    let S := s.stack (activeStack m)
    let t := (takenState m s n).setPc p
    StackBecomes S (t.stack (activeStack m)) (indexAfterTaking m S n) [] ∧
      t.stack (otherStack m) = s.stack (otherStack m) ∧ MemoryKept s t ∧ RestKept s t := by
  obtain ⟨hactive, hother, _, hmem, hrest⟩ := onlyActiveStack_takenState m s n hn
  exact ⟨by rwa [setPc_stack], by rwa [setPc_stack], hmem, restKept_trans hrest (moves_setPc _ p).rest⟩

/-- The target that the value on top stands for (R240, C1). -/
def topTarget (m : Mode) (s : State) : Addr := jumpTarget m s.pc (topOperand m s)

theorem topTarget_toNat (m : Mode) (s : State) :
    (topTarget m s).toNat =
      jumpTargetAt s.pc (operandBytes m) (valueFromTop (s.stack (activeStack m)) 0 (operandBytes m)) := by
  rw [topTarget, jumpTarget_toNat, topOperand_toNat]

/-! ## The three operations in closed form -/

/-- `JMP*` in closed form (R240). -/
theorem opJmp_eq (m : Mode) (s : State) : opJmp m s = (takenState m s (operandBytes m)).setPc (topTarget m s) := by
  simp only [opJmp, beginTake_eq, takeN_taken, taken_st, takenState_pc, Nat.zero_add, topTarget, topOperand]

/-- `JCN*` in closed form: both operands are taken in every case, and the byte beneath the target decides the new `pc` (R249). -/
theorem opJcn_eq (m : Mode) (s : State) :
    opJcn m s = (takenState m s (operandBytes m + 1)).setPc
      (if fromTop (s.stack (activeStack m)) (operandBytes m) = 0 then s.pc else topTarget m s) := by
  have hbytes := operandBytes_le m
  simp only [opJcn, beginTake_eq, takeN_taken, take1_taken, taken_st, takenState_pc, Nat.zero_add, conditionHolds_iff,
    ← fromTop_eq _ (operandBytes m) (by omega), ne_eq, ite_not]
  split
  · rw [← takenState_pc m s (operandBytes m + 1)]
    rfl
  · rfl

/-- `JSR*` in closed form: the `pc` it finds goes on the other stack, whether or not the operand is kept (R258, R100, D5). -/
theorem opJsr_eq (m : Mode) (s : State) :
    opJsr m s = (pushShort (otherStack m) s.pc (takenState m s (operandBytes m))).setPc (topTarget m s) := by
  simp only [opJsr, beginTake_eq, takeN_taken, taken_st, takenState_pc, Nat.zero_add, topTarget, topOperand]

/-! ## The statements -/

/-- Settles O17: the closed form of `JMP*`, with its target as a number. -/
theorem jmpSetsPcToItsTarget : Obligations.JmpSetsPcToItsTarget := by
  intro m s
  have hbytes := operandBytes_le m
  exact ⟨encode_op .jmp m, _, (exec_op .jmp m s).trans (congrArg _ (opJmp_eq m s)), topTarget_toNat m s,
    takenState_setPc_frame m s _ (by omega) _⟩

/-- Settles O18: in the closed form of `JCN*` only the new `pc` depends on the condition. -/
theorem jcnJumpsWhenItsConditionByteIsNotZero : Obligations.JcnJumpsWhenItsConditionByteIsNotZero := by
  intro m s
  have hbytes := operandBytes_le m
  refine ⟨encode_op .jcn m, _, (exec_op .jcn m s).trans (congrArg _ (opJcn_eq m s)), ?_,
    takenState_setPc_frame m s _ (by omega) _⟩
  rw [setPc_pc, apply_ite BitVec.toNat, topTarget_toNat]

/-- Settles O19: taking the target touches the active stack alone, the push of `pc` the other stack alone, and the jump
neither. -/
theorem jsrPushesTheReturnAddressAndJumps : Obligations.JsrPushesTheReturnAddressAndJumps := by
  intro m s
  have hbytes := operandBytes_le m
  obtain ⟨hactive, hother, _, hmem, hrest⟩ := onlyActiveStack_takenState m s (operandBytes m) (by omega)
  obtain ⟨hpush, hkept, _, hmemPush, hrestPush⟩ :=
    pushShort_frame (takenState m s (operandBytes m)) (otherStack m) (activeStack m) (activeStack_ne m) s.pc
  rw [hother] at hpush
  refine ⟨encode_op .jsr m, _, (exec_op .jsr m s).trans (congrArg _ (opJsr_eq m s)), topTarget_toNat m s, ?_, ?_,
    fun a => (hmemPush a).trans (hmem a), restKept_trans (restKept_trans hrest hrestPush) (moves_setPc _ _).rest⟩
  · rwa [setPc_stack, hkept]
  · rwa [setPc_stack]

end Sys2Proof.Machine
end

section
/-!
PROOFS. The memory family (45_memory_ops.md). Each operation takes an address operand first: a byte or a short on top of the active
stack. A load then pushes the value at the address (`loaded`), a store takes the value beneath the operand and writes it there
(`stored`). The three loads differ in the address alone, and so do the three stores, so each closed form is described once.
-/

namespace Sys2Proof.Machine

/-! ## The address operand -/

/-- The one-byte operand on top of the active stack: a zero-page address or a signed offset (R270, R288). -/
def topByte (m : Mode) (s : State) : Byte := (s.stack (activeStack m)).slot (s.stack (activeStack m)).idx

/-- The short on top of the active stack, in both widths: an absolute address (R306). -/
def topShort (m : Mode) (s : State) : Short :=
  let S := s.stack (activeStack m)
  concatBytes (S.slot (S.idx - BitVec.ofNat 8 1)) (S.slot (S.idx - BitVec.ofNat 8 0))

theorem take1_beginTake (m : Mode) (s : State) : take1 m (beginTake m s) = (topByte m s, taken m s 1) := by
  rw [beginTake_eq, take1_taken, BitVec.sub_zero, topByte]

theorem take2_beginTake (m : Mode) (s : State) : take2 m (beginTake m s) = (topShort m s, taken m s 2) := by
  rw [beginTake_eq, take2_taken, topShort]

theorem topByte_toNat (m : Mode) (s : State) : (topByte m s).toNat = fromTop (s.stack (activeStack m)) 0 := by
  rw [fromTop_eq _ 0 (by omega), BitVec.sub_zero, topByte]

theorem topShort_toNat_valueFromTop (m : Mode) (s : State) :
    (topShort m s).toNat = valueFromTop (s.stack (activeStack m)) 0 2 :=
  topShort_toNat _

theorem zeroPageAddr_topByte_toNat (m : Mode) (s : State) :
    (zeroPageAddr (topByte m s)).toNat = fromTop (s.stack (activeStack m)) 0 := by
  rw [zeroPageAddr_toNat, topByte_toNat]

theorem relativeAddr_topByte_toNat (m : Mode) (s : State) :
    (relativeAddr s.pc (topByte m s)).toNat = relativeTarget s.pc (fromTop (s.stack (activeStack m)) 0) := by
  rw [relativeAddr_eq_relativeTarget, topByte_toNat]

/-! ## A value loaded in place of its address -/

/-- The state after an address operand of `count` bytes is taken and the value at `addr` is pushed (R96, R98). -/
def loaded (m : Mode) (s : State) (count : Nat) (addr : Addr) : State :=
  pushN m (activeStack m) (memReadN m s addr) (takenState m s count)

/-- A load changes the active stack alone. -/
theorem onlyActiveStack_loaded (m : Mode) (s : State) (count : Nat) (hcount : count ≤ 2) (addr : Addr) :
    OnlyActiveStack m s (loaded m s count addr) count
      (bytesOf (operandBytes m) (valueAt s addr.toNat (operandBytes m))) := by
  have hbytes := operandBytes_le m
  rw [loaded, pushN_takenState, ← memReadN_toNat, ← valueBytes_toNat]
  exact onlyActiveStack_pushBytes m s count (by omega) _ (by rw [valueBytes_length]; omega)

/-- The opcodes of a base operation whose meaning is a load from the address that is the number `a`: their bytes, and that they
complete with only the active stack changed. -/
theorem exec_of_loaded (b : Base) (m : Mode) (s : State) (count : Nat) (hcount : count ≤ 2) (addr : Addr) (a : Nat)
    (hregular : regular b m s = loaded m s count addr) (haddr : addr.toNat = a) :
    encode (Instr.op b m) = [opcodeByte (baseNumber b) m] ∧
    ∃ t, exec (Instr.op b m) s = .next t ∧
      OnlyActiveStack m s t count (bytesOf (operandBytes m) (valueAt s a (operandBytes m))) := by
  subst haddr
  exact ⟨encode_op b m, loaded m s count addr, by rw [exec_op, hregular], onlyActiveStack_loaded m s count hcount addr⟩

/-! ## A value stored at its address -/

/-- The state after an address operand of `count` bytes and the value beneath it are taken and the value is written at `addr`
(R96, D4). -/
def stored (m : Mode) (s : State) (count : Nat) (addr : Addr) : State :=
  memWriteN m (takenState m s (count + operandBytes m)) addr (operandAt m (s.stack (activeStack m)) count)

/-- A store changes memory at its address, and of the stacks the active one's index alone. -/
theorem stored_frame (m : Mode) (s : State) (count : Nat) (hcount : count ≤ 2) (addr : Addr) :
    let N := operandBytes m
    let S := s.stack (activeStack m)
    let t := stored m s count addr
    MemoryBecomes s t addr.toNat (bytesOf N (valueFromTop S count N)) ∧
      StackBecomes S (t.stack (activeStack m)) (indexAfterTaking m S (count + N)) [] ∧
      t.stack (otherStack m) = s.stack (otherStack m) ∧ t.pc = s.pc ∧ RestKept s t := by
  intro N S t
  have hbytes := operandBytes_le m
  obtain ⟨hactive, hother, hpc, hmem, hrest⟩ := onlyActiveStack_takenState m s (count + N) (by omega)
  obtain ⟨hstackWrite, hpcWrite, hrestWrite⟩ := memWriteN_fields m (takenState m s (count + N)) addr (operandAt m S count)
  obtain ⟨hwritten, hkept⟩ := memoryBecomes_memWriteN m (takenState m s (count + N)) addr (operandAt m S count)
  rw [operandAt_toNat m S count (by omega)] at hwritten hkept
  refine ⟨⟨hwritten, fun a ha => (hkept a ha).trans (hmem a)⟩, ?_, (hstackWrite _).trans hother, hpcWrite.trans hpc,
    restKept_trans hrest hrestWrite⟩
  rwa [← hstackWrite] at hactive

/-- The opcodes of a base operation whose meaning is a store at the address that is the number `a`: their bytes, that they
complete, and what the store changes and keeps. -/
theorem exec_of_stored (b : Base) (m : Mode) (s : State) (count : Nat) (hcount : count ≤ 2) (addr : Addr) (a : Nat)
    (hregular : regular b m s = stored m s count addr) (haddr : addr.toNat = a) :
    let N := operandBytes m
    let S := s.stack (activeStack m)
    encode (Instr.op b m) = [opcodeByte (baseNumber b) m] ∧
    ∃ t, exec (Instr.op b m) s = .next t ∧ addr.toNat = a ∧
      MemoryBecomes s t addr.toNat (bytesOf N (valueFromTop S count N)) ∧
      StackBecomes S (t.stack (activeStack m)) (indexAfterTaking m S (count + N)) [] ∧
      t.stack (otherStack m) = s.stack (otherStack m) ∧ t.pc = s.pc ∧ RestKept s t :=
  ⟨encode_op b m, stored m s count addr, (exec_op b m s).trans (congrArg _ hregular), haddr,
    stored_frame m s count hcount addr⟩

/-! ## Which load or store each operation is -/

theorem opLdz_loaded (m : Mode) (s : State) : opLdz m s = loaded m s 1 (zeroPageAddr (topByte m s)) := by
  simp only [opLdz, take1_beginTake, taken_st, memReadN_takenState, loaded]

theorem opLdr_loaded (m : Mode) (s : State) : opLdr m s = loaded m s 1 (relativeAddr s.pc (topByte m s)) := by
  simp only [opLdr, take1_beginTake, taken_st, takenState_pc, memReadN_takenState, loaded]

theorem opLda_loaded (m : Mode) (s : State) : opLda m s = loaded m s 2 (topShort m s) := by
  simp only [opLda, take2_beginTake, taken_st, memReadN_takenState, loaded]

theorem opStz_stored (m : Mode) (s : State) : opStz m s = stored m s 1 (zeroPageAddr (topByte m s)) := by
  simp only [opStz, take1_beginTake, takeN_taken, taken_st, stored]

theorem opStr_stored (m : Mode) (s : State) : opStr m s = stored m s 1 (relativeAddr s.pc (topByte m s)) :=
  opStr_eq m s

theorem opSta_stored (m : Mode) (s : State) : opSta m s = stored m s 2 (topShort m s) := by
  simp only [opSta, take2_beginTake, takeN_taken, taken_st, stored]

/-! ## The statements -/

/-- Settles O20: the load whose address is the top byte itself. -/
theorem ldzPushesTheZeroPageValue : Obligations.LdzPushesTheZeroPageValue := by
  intro m s
  exact exec_of_loaded .ldz m s 1 (by decide) _ _ (opLdz_loaded m s) (zeroPageAddr_topByte_toNat m s)

/-- Settles O21: the load whose address is the top byte, signed, from `pc`. -/
theorem ldrPushesTheValueRelativeToPc : Obligations.LdrPushesTheValueRelativeToPc := by
  intro m s
  exact exec_of_loaded .ldr m s 1 (by decide) _ _ (opLdr_loaded m s) (relativeAddr_topByte_toNat m s)

/-- Settles O22: the load whose address is the top short. -/
theorem ldaPushesTheValueAtAnAbsoluteAddress : Obligations.LdaPushesTheValueAtAnAbsoluteAddress := by
  intro m s
  exact exec_of_loaded .lda m s 2 (by decide) _ _ (opLda_loaded m s) (topShort_toNat_valueFromTop m s)

/-- Settles O23: the store whose address is the top byte itself. -/
theorem stzStoresToTheZeroPage : Obligations.StzStoresToTheZeroPage := by
  intro m s
  rw [take1_beginTake]
  exact exec_of_stored .stz m s 1 (by decide) _ _ (opStz_stored m s) (zeroPageAddr_topByte_toNat m s)

/-- Settles O24: the store whose address is the top byte, signed, from `pc`. -/
theorem strStoresRelativeToPc : Obligations.StrStoresRelativeToPc := by
  intro m s
  rw [take1_beginTake]
  exact exec_of_stored .str m s 1 (by decide) _ _ (opStr_stored m s) (relativeAddr_topByte_toNat m s)

/-- Settles O25: the store whose address is the top short. -/
theorem staStoresAtAnAbsoluteAddress : Obligations.StaStoresAtAnAbsoluteAddress := by
  intro m s
  rw [take2_beginTake]
  exact exec_of_stored .sta m s 2 (by decide) _ _ (opSta_stored m s) (topShort_toNat_valueFromTop m s)

end Sys2Proof.Machine
end

section
/-!
PROOFS. The device family (46_device.md). `DEI*` and `DEO*` are one bridge call after their operands are taken. When the host
returns within its turn, the calling run goes on on what the host left (`returned`), and finishing the transaction adds a push for
`DEI*` and at most the end of the run for `DEO*`. The host's own writes are described first, one kind at a time.
-/

namespace Sys2Proof.Machine

/-! ## One write of the host -/

/-- A slot read by number after `T.data[i] <- v` (R10). -/
theorem slotAt_setSlot (t : Stack) (i v : Byte) (n : Nat) :
    slotAt (t.setSlot i v) n = if n % 256 = i.toNat then v.toNat else slotAt t n := by
  rw [slotAt, setSlot_data, read_write, apply_ite BitVec.toNat, slotAt]

theorem slotAt_setIdx (t : Stack) (i : Byte) (n : Nat) : slotAt (t.setIdx i) n = slotAt t n := rfl

theorem applyEdit_mem (s : State) (addr : Addr) (v : Byte) : applyEdit s (.mem addr v) = s.writeByte addr v := rfl

theorem applyEdit_data (s : State) (k : StackId) (slot v : Byte) :
    applyEdit s (.data k slot v) = s.setStack k ((s.stack k).setSlot slot v) := rfl

theorem applyEdit_index (s : State) (k : StackId) (v : Byte) :
    applyEdit s (.index k v) = s.setStack k ((s.stack k).setIdx v) := rfl

/-- Settles O39: a write to memory is one `writeByte`, and a write to a stack replaces that stack by one with a slot or the index
set. -/
theorem hostEditsWriteExactlyTheirTarget : Obligations.HostEditsWriteExactlyTheirTarget := by
  intro s addr k slot v
  rw [applyEdit_mem, applyEdit_data, applyEdit_index]
  refine ⟨⟨fun a => readByte_writeByte s addr a v, writeByte_stack s addr v⟩, ⟨fun i => ?_, ?_, ?_, ?_⟩,
    ⟨?_, fun i => ?_, ?_, ?_⟩⟩
  · rw [setStack_stack_same, slotAt_setSlot]
  · rw [setStack_stack_same, setSlot_idx]
  · exact fun j hj => setStack_stack_other s k j _ hj
  · exact memoryKept_setStack s k _
  · rw [setStack_stack_same, setIdx_idx]
  · rw [setStack_stack_same, slotAt_setIdx]
  · exact fun j hj => setStack_stack_other s k j _ hj
  · exact memoryKept_setStack s k _

/-! ## A bridge call that returns in its own step -/

@[simp] theorem takenState_deoHaltHonoured (m : Mode) (s : State) (n : Nat) :
    (takenState m s n).deoHaltHonoured = s.deoHaltHonoured := by
  simp [takenState]

/-- The run that called the host with `n` bytes taken goes on, on what the host's writes left; its instruction is still to be
finished (R332, R335). -/
def returned (x : Transaction) (m : Mode) (s : State) (n : Nat) : State :=
  goOn { pc := s.pc, transaction := x } s.suspended (afterEdits (publish x (takenState m s n)))

/-- A host that finishes its turn has only the calling instruction left to finish (R499). -/
theorem bridge_finish (x : Transaction) (m : Mode) (s : State) (n : Nat) (edits : List HostEdit) (value : Short) (c : Bool)
    (hturn : (takeTurn s).1 = { edits := edits, act := .finish value c }) :
    bridge x (takenState m s n) = finishTransaction x value c (returned x m s n) := by
  have hsuspended : (afterEdits (publish x (takenState m s n))).suspended = { pc := s.pc, transaction := x } :: s.suspended := by
    simp
  rw [bridge, hostMove_finish _ value c (by rw [takeTurn_publish, hturn]), resume_eq _ _ _ value c hsuspended, returned]

/-- Memory and the stacks are as the host's writes left the published state. -/
theorem returned_sameStore (x : Transaction) (m : Mode) (s : State) (n : Nat) (hn : n ≤ 256) (edits : List HostEdit)
    (value : Short) (c : Bool) (hturn : (takeTurn s).1 = { edits := edits, act := .finish value c }) :
    SameStore (applyEdits (published m s n x.call) edits) (returned x m s n) := by
  obtain ⟨hmem, hwst, hrst⟩ := afterEdits_publish_sameStore x m s n hn
  rw [hturn] at hmem hwst hrst
  exact ⟨hmem, hwst, hrst⟩

/-- The core's own fields: the call is on record, a run executes, the host's turn is used up, and the rest is as it was. -/
theorem returned_fields (x : Transaction) (m : Mode) (s : State) (n : Nat) :
    (returned x m s n).calls = s.calls ++ [x.call] ∧ (returned x m s n).pc = s.pc ∧ (returned x m s n).phase = .running ∧
      (returned x m s n).suspended = s.suspended ∧ (returned x m s n).result = s.result ∧
      (returned x m s n).script = (takeTurn s).2.script ∧ (returned x m s n).clock = (takeTurn s).2.clock ∧
      (returned x m s n).deoHaltHonoured = s.deoHaltHonoured := by
  obtain ⟨_, hscript, hclock⟩ := takeTurn_congr (publish x (takenState m s n)) s (by simp) (by simp)
  refine ⟨(afterEdits_calls _).trans ?_, rfl, rfl, rfl, (afterEdits_result _).trans ?_, (afterEdits_script _).trans hscript,
    (afterEdits_clock _).trans hclock, (afterEdits_deoHaltHonoured _).trans ?_⟩ <;> simp

/-! ## The two instructions -/

/-- A returned `DEI*` changes its target stack alone: the value's two bytes, or its low byte, are pushed (R340, D12). -/
theorem finishTransaction_dei_frame (port : Byte) (wide : Bool) (k l : StackId) (hne : l ≠ k) (value : Short) (c : Bool)
    (s : State) :
    let t := finishTransaction (.dei port wide k) value c s
    StackBecomes (s.stack k) (t.stack k) (s.stack k).idx.toNat (bytesOf (if wide then 2 else 1) value.toNat) ∧
      t.stack l = s.stack l ∧ t.pc = s.pc ∧ MemoryKept s t ∧ RestKept s t := by
  rw [finishTransaction_dei, ← returnedBytes_toNat]
  exact setStack_pushBytes_frame s k l hne _ (by split <;> simp)

/-- Settles O26: `DEI*` is a bridge call after one byte taken, and finishing it is one push on the active stack as the host left
it. -/
theorem deiPushesTheHostsValue : Obligations.DeiPushesTheHostsValue := by
  intro m s edits value c hturn N S call h
  let x := Transaction.dei (BitVec.ofNat 8 (fromTop S 0)) m.short (activeStack m)
  let u := returned x m s 1
  have hexec : exec (Instr.op .dei m) s = .next (bridge x (takenState m s 1)) :=
    (exec_op .dei m s).trans (congrArg _ (opDei_eq m s))
  rw [bridge_finish x m s 1 edits value c hturn] at hexec
  have hstore : SameStore h u := returned_sameStore x m s 1 (by omega) edits value c hturn
  obtain ⟨hcalls, hpc, hphase, hsuspended, hresult, hscript, hclock, hhonoured⟩ := returned_fields x m s 1
  obtain ⟨hpush, hother, hpcPush, hmemPush, hrest⟩ := finishTransaction_dei_frame (BitVec.ofNat 8 (fromTop S 0)) m.short
    (activeStack m) (otherStack m) (otherStack_ne m) value c u
  obtain ⟨hphasePush, hsuspendedPush, hresultPush, hhonouredPush, hcallsPush, hscriptPush, hclockPush⟩ := hrest
  rw [hstore.stack] at hpush hother
  exact ⟨encode_op .dei m, _, hexec, hpush, hother, fun a => (hmemPush a).trans (hstore.readByte a),
    hcallsPush.trans hcalls, hpcPush.trans hpc, hphasePush.trans hphase, hsuspendedPush.trans hsuspended,
    hresultPush.trans hresult, hscriptPush.trans hscript, hclockPush.trans hclock, hhonouredPush.trans hhonoured⟩

/-- Settles O27: `DEO*` is a bridge call after `1 + N` bytes taken, and finishing it is a `halt` or nothing. -/
theorem deoHandsItsValueToTheHost : Obligations.DeoHandsItsValueToTheHost := by
  intro m s edits value c hturn N S call h
  let x := Transaction.deo (BitVec.ofNat 8 (fromTop S 0)) (BitVec.ofNat 16 (valueFromTop S 1 N)) m.short
  let u := returned x m s (1 + N)
  have hexec : exec (Instr.op .deo m) s = .next (bridge x (takenState m s (1 + N))) :=
    (exec_op .deo m s).trans (congrArg _ (opDeo_eq m s))
  have hbytes : N ≤ 2 := operandBytes_le m
  have hstore : SameStore h u := returned_sameStore x m s (1 + N) (by omega) edits value c hturn
  obtain ⟨hcalls, hpc, hphase, hsuspended, hresult, hscript, hclock, hhonoured⟩ := returned_fields x m s (1 + N)
  rw [bridge_finish x m s (1 + N) edits value c hturn, finishTransaction_deo, hhonoured] at hexec
  refine ⟨encode_op .deo m, _, hexec, ?_⟩
  by_cases hends : s.deoHaltHonoured = true ∧ c = false
  · rw [if_pos hends, if_pos hends, hpc]
    exact ⟨fun k => (halt_stack u s.pc k).trans (hstore.stack k), hstore.readByte, hcalls, hpc, hsuspended, ⟨rfl, rfl⟩,
      hscript, hclock, hhonoured⟩
  · rw [if_neg hends, if_neg hends]
    exact ⟨hstore.stack, hstore.readByte, hcalls, hpc, hsuspended, ⟨hphase, hresult⟩, hscript, hclock, hhonoured⟩

end Sys2Proof.Machine
end

section
/-!
PROOFS. The arithmetic family (47_arith.md). Each operation takes its operands from the active stack and pushes one value of the
mode's width there (`computed`). Seven of the nine are a function of the top two values, `SUB` and `DIV` with their right operand
on top (D22). Each is tied to that closed form by an equation that names its function, and each function to the arithmetic of the
operands as natural numbers.
-/

namespace Sys2Proof.Machine

/-! ## A value pushed in place of the operands -/

/-- The state after `count` bytes are taken and a value is pushed (R96, R98). -/
def computed (m : Mode) (s : State) (count : Nat) (v : BitVec (modeBits m)) : State :=
  pushN m (activeStack m) v (takenState m s count)

/-- A value pushed in place of the operands changes the active stack alone. -/
theorem onlyActiveStack_computed (m : Mode) (s : State) (count : Nat) (hcount : count ≤ 256) (v : BitVec (modeBits m)) :
    OnlyActiveStack m s (computed m s count v) count (bytesOf (operandBytes m) v.toNat) := by
  have hbytes := operandBytes_le m
  rw [computed, pushN_takenState, ← valueBytes_toNat]
  exact onlyActiveStack_pushBytes m s count hcount _ (by rw [valueBytes_length]; omega)

/-- The opcodes of a base operation whose meaning is to push a value that is the number `n`: their bytes, and that they complete
with only the active stack changed. -/
theorem exec_of_computed (b : Base) (m : Mode) (s : State) (count : Nat) (hcount : count ≤ 256) (v : BitVec (modeBits m))
    (n : Nat) (hregular : regular b m s = computed m s count v) (hvalue : v.toNat = n) :
    encode (Instr.op b m) = [opcodeByte (baseNumber b) m] ∧
    ∃ t, exec (Instr.op b m) s = .next t ∧ OnlyActiveStack m s t count (bytesOf (operandBytes m) n) := by
  subst hvalue
  exact ⟨encode_op b m, computed m s count v, by rw [exec_op, hregular], onlyActiveStack_computed m s count hcount v⟩

/-! ## A function of the top two values -/

/-- The state after the top two values are taken and `f` of them is pushed, the deeper one as its left argument (D22). -/
def combined (m : Mode) (s : State) (f : BitVec (modeBits m) → BitVec (modeBits m) → BitVec (modeBits m)) : State :=
  computed m s (2 * operandBytes m) (f (secondOperand m s) (topOperand m s))

/-- What the seven operations share: the top value is taken, then the one beneath it, and the result is a function of the two. -/
theorem combined_of_taken (m : Mode) (s : State)
    (f : BitVec (modeBits m) → BitVec (modeBits m) → BitVec (modeBits m)) :
    let top := takeN m (beginTake m s)
    let second := takeN m top.2
    pushN m (activeStack m) (f second.1 top.1) second.2.st = combined m s f := by
  simp only [beginTake_eq, takeN_taken, taken_st, Nat.zero_add, combined, computed, topOperand, secondOperand, Nat.two_mul]

/-- The opcodes of a base operation whose meaning is a function `f` of the top two values, where `f` is `r` on numbers. -/
theorem exec_of_combined (b : Base) (m : Mode) (s : State)
    (f : BitVec (modeBits m) → BitVec (modeBits m) → BitVec (modeBits m)) (r : Nat → Nat → Nat)
    (hregular : regular b m s = combined m s f) (hvalue : ∀ x y, (f x y).toNat = r x.toNat y.toNat) :
    let N := operandBytes m
    let S := s.stack (activeStack m)
    encode (Instr.op b m) = [opcodeByte (baseNumber b) m] ∧
    ∃ t, exec (Instr.op b m) s = .next t ∧
      OnlyActiveStack m s t (2 * N) (bytesOf N (r (valueFromTop S N N) (valueFromTop S 0 N))) := by
  intro N S
  have hbytes : N ≤ 2 := operandBytes_le m
  refine exec_of_computed b m s (2 * N) (by omega) _ _ hregular ?_
  rw [hvalue, secondOperand_toNat, topOperand_toNat]

/-! ## The operations in closed form -/

theorem opInc_computed (m : Mode) (s : State) : opInc m s = computed m s (operandBytes m) (topOperand m s + 1) := by
  simp only [opInc, beginTake_eq, takeN_taken, taken_st, Nat.zero_add, computed, topOperand]

theorem opAdd_combined (m : Mode) (s : State) : opAdd m s = combined m s fun a b => a + b := combined_of_taken m s _

theorem opSub_combined (m : Mode) (s : State) : opSub m s = combined m s fun a b => a - b := combined_of_taken m s _

theorem opMul_combined (m : Mode) (s : State) : opMul m s = combined m s fun a b => a * b := combined_of_taken m s _

theorem opDiv_combined (m : Mode) (s : State) : opDiv m s = combined m s (quotient m) := combined_of_taken m s _

theorem opAnd_combined (m : Mode) (s : State) : opAnd m s = combined m s fun a b => a &&& b := combined_of_taken m s _

theorem opOra_combined (m : Mode) (s : State) : opOra m s = combined m s fun a b => a ||| b := combined_of_taken m s _

theorem opEor_combined (m : Mode) (s : State) : opEor m s = combined m s fun a b => a ^^^ b := combined_of_taken m s _

/-- The value beneath the shift byte of `SFT*` (R442, D22). -/
def operandBeneathByte (m : Mode) (s : State) : BitVec (modeBits m) := operandAt m (s.stack (activeStack m)) 1

theorem operandBeneathByte_toNat (m : Mode) (s : State) :
    (operandBeneathByte m s).toNat = valueFromTop (s.stack (activeStack m)) 1 (operandBytes m) :=
  operandAt_toNat m _ 1 (by omega)

/-- `SFT*` in closed form: the shift is one byte in both widths (R442). -/
theorem opSft_computed (m : Mode) (s : State) :
    opSft m s = computed m s (1 + operandBytes m) (shifted m (operandBeneathByte m s) (topByte m s)) := by
  simp only [opSft, take1_beginTake, takeN_taken, taken_st, computed, operandBeneathByte]

/-! ## The functions as arithmetic on numbers -/

/-- The modulus of the width in bits is that of the width in bytes (R95). -/
theorem two_pow_modeBits (m : Mode) : 2 ^ modeBits m = 2 ^ (8 * operandBytes m) := by
  rw [modeBits_eq]

theorem toNat_add_one (m : Mode) (a : BitVec (modeBits m)) : (a + 1).toNat = (a.toNat + 1) % 2 ^ (8 * operandBytes m) := by
  rw [← two_pow_modeBits]
  simp

/-- No borrow is kept: the difference is taken with one modulus added to the left operand (R388). -/
theorem toNat_sub_modulus_left (m : Mode) (a b : BitVec (modeBits m)) :
    (a - b).toNat = (a.toNat + 2 ^ (8 * operandBytes m) - b.toNat) % 2 ^ (8 * operandBytes m) := by
  have hb : b.toNat ≤ 2 ^ modeBits m := b.isLt.le
  rw [BitVec.toNat_sub, ← two_pow_modeBits, Nat.add_comm, Nat.add_sub_assoc hb]

theorem quotient_toNat (m : Mode) (a b : BitVec (modeBits m)) :
    (quotient m a b).toNat = if b.toNat = 0 then 0 else a.toNat / b.toNat := by
  have hzero : b = 0 ↔ b.toNat = 0 := BitVec.toNat_inj.symm
  simp only [quotient, hzero]
  split
  · rfl
  · exact BitVec.toNat_udiv

theorem lowNibble_toNat (sh : Byte) : (sh.extractLsb' 0 4).toNat = sh.toNat % 16 := BitVec.extractLsb'_toNat 0 4 sh

theorem highNibble_toNat (sh : Byte) : (sh.extractLsb' 4 4).toNat = sh.toNat / 16 := by
  have hsh := sh.isLt
  rw [BitVec.extractLsb'_toNat, Nat.shiftRight_eq_div_pow]
  omega

/-- The right shift divides, and then the left one multiplies and drops what leaves the width (R442). -/
theorem shifted_toNat (m : Mode) (a : BitVec (modeBits m)) (sh : Byte) :
    (shifted m a sh).toNat = a.toNat / 2 ^ (sh.toNat % 16) * 2 ^ (sh.toNat / 16) % 2 ^ (8 * operandBytes m) := by
  rw [shifted, BitVec.toNat_shiftLeft, BitVec.toNat_ushiftRight, lowNibble_toNat, highNibble_toNat, Nat.shiftLeft_eq,
    Nat.shiftRight_eq_div_pow, two_pow_modeBits]

/-! ## The statements -/

/-- Settles O1: one value is taken, and its successor of the same width pushed. -/
theorem incPushesSuccessModWidth : Obligations.IncPushesSuccessModWidth := by
  intro m s
  have hbytes := operandBytes_le m
  refine exec_of_computed .inc m s _ (by omega) _ _ (opInc_computed m s) ?_
  rw [toNat_add_one, topOperand_toNat]

/-- Settles O2: a sum of words is the sum of the numbers mod the width. -/
theorem addPushesSumModWidth : Obligations.AddPushesSumModWidth := by
  intro m s
  refine exec_of_combined .add m s _ (fun a b => (a + b) % 2 ^ (8 * operandBytes m)) (opAdd_combined m s) fun a b => ?_
  rw [BitVec.toNat_add, two_pow_modeBits]

/-- Settles O3: a difference of words is that of the numbers with the modulus added, and the top value is taken away. -/
theorem subPushesDifferenceModWidth : Obligations.SubPushesDifferenceModWidth := by
  intro m s
  exact exec_of_combined .sub m s _ (fun a b => (a + 2 ^ (8 * operandBytes m) - b) % 2 ^ (8 * operandBytes m))
    (opSub_combined m s) (toNat_sub_modulus_left m)

/-- Settles O4: a product of words is the product of the numbers mod the width. -/
theorem mulPushesLowHalfOfProduct : Obligations.MulPushesLowHalfOfProduct := by
  intro m s
  refine exec_of_combined .mul m s _ (fun a b => (a * b) % 2 ^ (8 * operandBytes m)) (opMul_combined m s) fun a b => ?_
  rw [BitVec.toNat_mul, two_pow_modeBits]

/-- Settles O5: `quotient` on numbers, with the top value as the divisor. -/
theorem divPushesQuotientOrZero : Obligations.DivPushesQuotientOrZero := by
  intro m s
  exact exec_of_combined .div m s _ (fun a b => if b = 0 then 0 else a / b) (opDiv_combined m s) (quotient_toNat m)

/-- Settles O6: the bits of a word are those of its number. -/
theorem bitwiseOperationsPushTheirResult : Obligations.BitwiseOperationsPushTheirResult := by
  intro m s
  exact ⟨exec_of_combined .and m s _ Nat.land (opAnd_combined m s) BitVec.toNat_and,
    exec_of_combined .ora m s _ Nat.lor (opOra_combined m s) BitVec.toNat_or,
    exec_of_combined .eor m s _ Nat.xor (opEor_combined m s) BitVec.toNat_xor⟩

/-- Settles O7: `shifted` on numbers, with the top byte as the shift and the value beneath it shifted. -/
theorem sftShiftsRightThenLeft : Obligations.SftShiftsRightThenLeft := by
  intro m s
  have hbytes := operandBytes_le m
  refine exec_of_computed .sft m s _ (by omega) _ _ (opSft_computed m s) ?_
  rw [shifted_toNat, operandBeneathByte_toNat, topByte_toNat]

end Sys2Proof.Machine
end
